-- ==== Sys2Proof/Word.lean ====
section
/-! DEFINITION. The plain types of the block's data: the byte a `WRITE` carries, the address the sample
memory is read at, and the value of one output sample (spec/10_state.md, 20_memory.md). -/

namespace Sys2Proof

/-- One register byte: "The only access width is 8 bits" (R74). -/
abbrev Byte := BitVec 8

/-- A 16-bit byte address of the sample memory (R70). -/
abbrev Addr := BitVec 16

/-- A register id, 5 bits (R70, R75). -/
abbrev RegId := BitVec 5

/-- The transaction word of a `WRITE`, `{id[4:0], data[7:0]}`, 13 bits (R101). -/
abbrev WriteWord := BitVec 13

/-- A FIFO element: an integer value (R72, D24).  No rule shifts or masks a sample, so it is an `Int`; that
it is a signed 16-bit integer is an invariant of the machine (`FifoSound` of Safety.lean, R331). -/
abbrev Sample := Int

end Sys2Proof
end

