-- ==== Sys2Proof/Config.lean ====
section
/-! DEFINITION. The implementation parameters of rule R6 (spec/00_scope.md): the ones with a default are
fixed at it ("A parameter with a default is fixed at that value for "this hardware""); the one numeric
parameter the spec leaves OPEN, `FIFO_CAPACITY`, is an uninterpreted constant; and the one value no rule
gives, the average over no cycles, is an uninterpreted function. -/

namespace Sys2Proof.Config

/-- `CPU_HZ`, CPU cycles per second (R6, D21). -/
abbrev cpuHz : Nat := 1789773

/-- `SAMPLE_RATE`, the host's sample rate (R6). -/
abbrev sampleRate : Nat := 44100

/-- `FS_STEP_PERIOD`, the period of the frame sequencer's prescaler (R6, R300, D16). -/
abbrev fsStepPeriod : BitVec 13 := 7456

/-- `SWEEP_SHIFT0_GUARD`: false, so a retune with shift 0 is applied (R6, R182, D13). -/
abbrev sweepShift0Guard : Bool := false

/-- `CHANNEL_COUNT`: mono (R6). -/
abbrev channelCount : Nat := 1

/-- One less than `FIFO_CAPACITY`.  OPEN in the spec (R6, D23, N4): uninterpreted, so nothing can be proved
of its value.  DESIGN CHOICE of the form, notes/assumptions/4.md. -/
opaque fifoCapacityLessOne : Nat

/-- `FIFO_CAPACITY`, "positive integer" (R6): the capacity of the FIFO at construction. -/
def fifoCapacity : Nat := fifoCapacityLessOne + 1

/-- The average of a sum over no cycles.  R15 says no emission ever divides by zero, so no rule gives this
value: a free value, DESIGN CHOICE, notes/assumptions/8.md. -/
opaque averageOfNoCycles : Rat → Rat

end Sys2Proof.Config
end

