-- ==== Sys2Proof/Syntax.lean ====
section
/-! DEFINITION. The block's external events (spec/30_encoding.md R100) and `Instr`, one constructor for each
row of spec/opcode_table.json: the 25 `W` rows (register writes), the 4 `EVENT` rows and the 70 `INTERNAL`
rows (the primitive operations the other rules invoke, R127).  An internal operation carries the component
it is invoked on (`X` of `X.Op(args)`, R8) and its arguments, each at the width the table gives it. -/

namespace Sys2Proof

/-- The five external events (R100), in the form they are issued: a `WRITE` as its 13-bit transaction word
(R101), the other four without a bit-level encoding ("this spec invents none"). -/
inductive Event where
  | write (w : WriteWord)
  | step
  | reset
  | pull
  | seek (t : Nat)
  deriving DecidableEq, Repr

/-- The producer context issues `WRITE`, `STEP` and `RESET`; the consumer context `PULL` and `SEEK` (R10). -/
def Event.isProducer : Event → Bool
  | .write _ => true
  | .step => true
  | .reset => true
  | .pull => false
  | .seek _ => false

/-- The two pulse channels (R32). -/
inductive PulseId where
  | p1
  | p2
  deriving DecidableEq, Repr

/-- The timers the split period write is used by: "The split write (rules R146, R147) is used by p1, p2 and
tri, whose period is 11 bits" (R145). -/
inductive SplitTimerId where
  | p1
  | p2
  | tri
  deriving DecidableEq, Repr

/-- The five Timers (R145). -/
inductive TimerId where
  | p1
  | p2
  | tri
  | noi
  | dmc
  deriving DecidableEq, Repr

/-- The width of a Timer's Divider: 11 bits for p1, p2, tri, noi, 8 bits for dmc (R25). -/
abbrev TimerId.width : TimerId → Nat
  | .p1 => 11
  | .p2 => 11
  | .tri => 11
  | .noi => 11
  | .dmc => 8

/-- The four LengthCounters (R27). -/
inductive LengthId where
  | p1
  | p2
  | tri
  | noi
  deriving DecidableEq, Repr

/-- The three VolumeEnvelopes (R28). -/
inductive EnvelopeId where
  | p1
  | p2
  | noi
  deriving DecidableEq, Repr

/-- The eleven Dividers: one in each timer, envelope and sweep unit, and the sequencer's prescaler (R25). -/
inductive DividerId where
  | timer (t : TimerId)
  | env (e : EnvelopeId)
  | sweep (x : PulseId)
  | fs
  deriving DecidableEq, Repr

/-- The width W of a Divider's two fields (R25). -/
abbrev DividerId.width : DividerId → Nat
  | .timer t => t.width
  | .env _ => 4
  | .sweep _ => 3
  | .fs => 13

/-- The operations of spec/opcode_table.json, in the table's order. -/
inductive Instr where
  -- format W: `WRITE(id, b)`, the register named by its id, `b` the byte written (R260 to R293)
  | wP1R0 (b : Byte)
  | wP1R1 (b : Byte)
  | wP1R2 (b : Byte)
  | wP1R3 (b : Byte)
  | wP2R0 (b : Byte)
  | wP2R1 (b : Byte)
  | wP2R2 (b : Byte)
  | wP2R3 (b : Byte)
  | wTriR0 (b : Byte)
  | wTriR1 (b : Byte)
  | wTriR2 (b : Byte)
  | wTriR3 (b : Byte)
  | wNoiR0 (b : Byte)
  | wNoiR1 (b : Byte)
  | wNoiR2 (b : Byte)
  | wNoiR3 (b : Byte)
  | wDmcR0 (b : Byte)
  | wDmcR1 (b : Byte)
  | wDmcR2 (b : Byte)
  | wDmcR3 (b : Byte)
  | wId14 (b : Byte)
  | wEnable (b : Byte)
  | wId16 (b : Byte)
  | wFrame (b : Byte)
  /-- ids 0x18 to 0x1F: `low` is bits 2:0 of the id, "bits 10:8 are any value". -/
  | wId18To1F (low : BitVec 3) (b : Byte)
  -- format EVENT
  | step
  | reset
  | pull
  | seek (t : Nat)
  -- format INTERNAL: Divider and Timer (spec/40_divider_timer.md)
  | dividerSetPeriod (d : DividerId) (p : BitVec d.width)
  | dividerResetCounter (d : DividerId)
  | dividerClock (d : DividerId)
  | timerSetPeriodLow8 (t : SplitTimerId) (v : BitVec 8)
  | timerSetPeriodHigh3 (t : SplitTimerId) (v : BitVec 3)
  | timerSetPeriod (t : TimerId) (p : BitVec t.width)
  | timerGetPeriod (t : TimerId)
  | timerClock (t : TimerId)
  -- LengthCounter (spec/41_length_counter.md)
  | lengthSetEnabled (l : LengthId) (e : Bool)
  | lengthSetHalt (l : LengthId) (h : Bool)
  | lengthLoad (l : LengthId) (i : BitVec 5)
  | lengthClock (l : LengthId)
  | lengthSilenceChannel (l : LengthId)
  | lengthGetValue (l : LengthId)
  -- VolumeEnvelope (spec/42_envelope.md)
  | envelopeSetConstantVolume (e : EnvelopeId) (v : BitVec 4)
  | envelopeRestart (e : EnvelopeId)
  | envelopeClock (e : EnvelopeId)
  | envelopeGetVolume (e : EnvelopeId)
  | envelopeSetLoop (e : EnvelopeId) (b : Bool)
  | envelopeSetConstantVolumeMode (e : EnvelopeId) (b : Bool)
  -- SweepUnit (spec/43_sweep.md)
  | sweepTarget (x : PulseId)
  | sweepRetune (x : PulseId)
  | sweepSilence (x : PulseId)
  | sweepClock (x : PulseId)
  | sweepSetEnabled (x : PulseId) (b : Bool)
  | sweepSetNegate (x : PulseId) (b : Bool)
  | sweepSetPeriod (x : PulseId) (p : BitVec 3)
  | sweepSetShiftCount (x : PulseId) (n : BitVec 3)
  | sweepRestart (x : PulseId)
  -- the waveform generators (spec/44_waveform.md)
  | pulseWaveAdvance (x : PulseId)
  | pulseWaveRestart (x : PulseId)
  | pulseWaveOutput (x : PulseId)
  | triWaveAdvance
  | triWaveOutput
  | linearCounterClock
  | linearCounterSetReloadFlag
  | noiseWaveAdvance
  | noiseWaveOutput
  | dmcRestartSample
  | dmcFill
  | dmcOutputClock
  | dmcStepLevel (b : Bool)
  | dmcStartOutputCycle
  | dmcOutput
  -- the channels (spec/45_channels.md)
  | pulseClockTimer (x : PulseId)
  | pulseGetValue (x : PulseId)
  | pulseClockQuarterFrame (x : PulseId)
  | pulseClockHalfFrame (x : PulseId)
  | triangleClockTimer
  | triangleClockQuarterFrame
  | triangleGetValue
  | triangleClockHalfFrame
  | noiseClockTimer
  | noiseGetValue
  | noiseClockQuarterFrame
  | noiseClockHalfFrame
  | dmcGetValue
  | dmcClockTimer
  | dmcClockQuarterFrame
  | dmcClockHalfFrame
  | clockQuarterFrameAll
  | clockHalfFrameAll
  -- the frame sequencer (spec/47_frame_sequencer.md)
  | fsClock
  | fsDoPosition (q h i : Bool)
  | fsWriteMode (m inh : Bool)
  -- the body of STEP (spec/48_mixer_resampler.md) and the FIFO's tail (spec/49_stream_buffer.md)
  | clockTimers
  | mix
  | resample
  | scale (avg : Rat)
  | fifoAppend (x : Sample)
  deriving DecidableEq, Repr

end Sys2Proof
end

