-- ==== Sys2Proof/WellFormed.lean ====
section
/-! DEFINITION. Which terms of `Instr` are operations of the table.  Every operand range but two is carried by
the operand's type (a byte, a field of the width the table gives, an instance that has the operation); the two
left are the sample `Fifo.append` is given ("signed 16 bits") and the average `Scale` is given ("exact rational
in [0,1)"). -/

namespace Sys2Proof

/-- A signed 16-bit integer value (R72, R341). -/
def sampleInRange (x : Sample) : Bool := decide (-32768 ≤ x) && decide (x ≤ 32767)

/-- An exact rational in [0,1), the operand of `Scale` (the table's row; R327, R331). -/
def averageInRange (avg : Rat) : Bool := decide (0 ≤ avg) && decide (avg < 1)

/-- Well-formedness of an operation's operands. -/
def Instr.wellFormed : Instr → Bool
  | .fifoAppend x => sampleInRange x
  | .scale avg => averageInRange avg
  | .wP1R0 _ | .wP1R1 _ | .wP1R2 _ | .wP1R3 _ | .wP2R0 _ | .wP2R1 _ | .wP2R2 _ | .wP2R3 _
  | .wTriR0 _ | .wTriR1 _ | .wTriR2 _ | .wTriR3 _ | .wNoiR0 _ | .wNoiR1 _ | .wNoiR2 _ | .wNoiR3 _
  | .wDmcR0 _ | .wDmcR1 _ | .wDmcR2 _ | .wDmcR3 _ | .wId14 _ | .wEnable _ | .wId16 _ | .wFrame _
  | .wId18To1F _ _ | .step | .reset | .pull | .seek _
  | .dividerSetPeriod _ _ | .dividerResetCounter _ | .dividerClock _
  | .timerSetPeriodLow8 _ _ | .timerSetPeriodHigh3 _ _ | .timerSetPeriod _ _ | .timerGetPeriod _
  | .timerClock _ | .lengthSetEnabled _ _ | .lengthSetHalt _ _ | .lengthLoad _ _ | .lengthClock _
  | .lengthSilenceChannel _ | .lengthGetValue _ | .envelopeSetConstantVolume _ _ | .envelopeRestart _
  | .envelopeClock _ | .envelopeGetVolume _ | .envelopeSetLoop _ _ | .envelopeSetConstantVolumeMode _ _
  | .sweepTarget _ | .sweepRetune _ | .sweepSilence _ | .sweepClock _ | .sweepSetEnabled _ _
  | .sweepSetNegate _ _ | .sweepSetPeriod _ _ | .sweepSetShiftCount _ _ | .sweepRestart _
  | .pulseWaveAdvance _ | .pulseWaveRestart _ | .pulseWaveOutput _ | .triWaveAdvance | .triWaveOutput
  | .linearCounterClock | .linearCounterSetReloadFlag | .noiseWaveAdvance | .noiseWaveOutput
  | .dmcRestartSample | .dmcFill | .dmcOutputClock | .dmcStepLevel _ | .dmcStartOutputCycle | .dmcOutput
  | .pulseClockTimer _ | .pulseGetValue _ | .pulseClockQuarterFrame _ | .pulseClockHalfFrame _
  | .triangleClockTimer | .triangleClockQuarterFrame | .triangleGetValue | .triangleClockHalfFrame
  | .noiseClockTimer | .noiseGetValue | .noiseClockQuarterFrame | .noiseClockHalfFrame
  | .dmcGetValue | .dmcClockTimer | .dmcClockQuarterFrame | .dmcClockHalfFrame
  | .clockQuarterFrameAll | .clockHalfFrameAll | .fsClock | .fsDoPosition _ _ _ | .fsWriteMode _ _
  | .clockTimers | .mix | .resample => true

/-- The operations that are external events (R100): the `W` and `EVENT` rows.  The `INTERNAL` rows are "not
issuable from outside" (R127). -/
def Instr.isExternal : Instr → Bool
  | .wP1R0 _ | .wP1R1 _ | .wP1R2 _ | .wP1R3 _ | .wP2R0 _ | .wP2R1 _ | .wP2R2 _ | .wP2R3 _
  | .wTriR0 _ | .wTriR1 _ | .wTriR2 _ | .wTriR3 _ | .wNoiR0 _ | .wNoiR1 _ | .wNoiR2 _ | .wNoiR3 _
  | .wDmcR0 _ | .wDmcR1 _ | .wDmcR2 _ | .wDmcR3 _ | .wId14 _ | .wEnable _ | .wId16 _ | .wFrame _
  | .wId18To1F _ _ | .step | .reset | .pull | .seek _ => true
  | .dividerSetPeriod _ _ | .dividerResetCounter _ | .dividerClock _
  | .timerSetPeriodLow8 _ _ | .timerSetPeriodHigh3 _ _ | .timerSetPeriod _ _ | .timerGetPeriod _
  | .timerClock _ | .lengthSetEnabled _ _ | .lengthSetHalt _ _ | .lengthLoad _ _ | .lengthClock _
  | .lengthSilenceChannel _ | .lengthGetValue _ | .envelopeSetConstantVolume _ _ | .envelopeRestart _
  | .envelopeClock _ | .envelopeGetVolume _ | .envelopeSetLoop _ _ | .envelopeSetConstantVolumeMode _ _
  | .sweepTarget _ | .sweepRetune _ | .sweepSilence _ | .sweepClock _ | .sweepSetEnabled _ _
  | .sweepSetNegate _ _ | .sweepSetPeriod _ _ | .sweepSetShiftCount _ _ | .sweepRestart _
  | .pulseWaveAdvance _ | .pulseWaveRestart _ | .pulseWaveOutput _ | .triWaveAdvance | .triWaveOutput
  | .linearCounterClock | .linearCounterSetReloadFlag | .noiseWaveAdvance | .noiseWaveOutput
  | .dmcRestartSample | .dmcFill | .dmcOutputClock | .dmcStepLevel _ | .dmcStartOutputCycle | .dmcOutput
  | .pulseClockTimer _ | .pulseGetValue _ | .pulseClockQuarterFrame _ | .pulseClockHalfFrame _
  | .triangleClockTimer | .triangleClockQuarterFrame | .triangleGetValue | .triangleClockHalfFrame
  | .noiseClockTimer | .noiseGetValue | .noiseClockQuarterFrame | .noiseClockHalfFrame
  | .dmcGetValue | .dmcClockTimer | .dmcClockQuarterFrame | .dmcClockHalfFrame
  | .clockQuarterFrameAll | .clockHalfFrameAll | .fsClock | .fsDoPosition _ _ _ | .fsWriteMode _ _
  | .clockTimers | .mix | .resample | .scale _ | .fifoAppend _ => false

end Sys2Proof
end

