-- ==== Sys2Proof/Decode.lean ====
section
/-! DEFINITION. Decoding and encoding (spec/30_encoding.md).  Only a `WRITE` has bits: the 13-bit word
`{id[4:0], data[7:0]}` (R101); "A decoder tells the register from bits 12:8 alone" and every value of bits 7:0
is legal, so `decodeWord` is total on the 13-bit words.  A number that is no 13-bit word is rejected by name
(`decodeNat`).  The other four events have no encoding and stand for themselves (R100). -/

namespace Sys2Proof

/-- Why a number is no transaction word. -/
inductive DecodeError where
  /-- A bit above bit 12 is set; Format W has 13 bits (R101). -/
  | widerThan13Bits
  deriving DecidableEq, Repr

/-- Bits 12:8 of a transaction word: the register id (R101). -/
def wordId (w : WriteWord) : RegId := w.extractLsb' 8 5

/-- Bits 7:0 of a transaction word: the byte written (R101). -/
def wordByte (w : WriteWord) : Byte := w.extractLsb' 0 8

/-- The register write a 13-bit word stands for: the id map of R75, with ids 0x18 to 0x1F together (R293). -/
def decodeWord (w : WriteWord) : Instr :=
  let b := wordByte w
  match (wordId w).toNat with
  | 0x00 => .wP1R0 b
  | 0x01 => .wP1R1 b
  | 0x02 => .wP1R2 b
  | 0x03 => .wP1R3 b
  | 0x04 => .wP2R0 b
  | 0x05 => .wP2R1 b
  | 0x06 => .wP2R2 b
  | 0x07 => .wP2R3 b
  | 0x08 => .wTriR0 b
  | 0x09 => .wTriR1 b
  | 0x0A => .wTriR2 b
  | 0x0B => .wTriR3 b
  | 0x0C => .wNoiR0 b
  | 0x0D => .wNoiR1 b
  | 0x0E => .wNoiR2 b
  | 0x0F => .wNoiR3 b
  | 0x10 => .wDmcR0 b
  | 0x11 => .wDmcR1 b
  | 0x12 => .wDmcR2 b
  | 0x13 => .wDmcR3 b
  | 0x14 => .wId14 b
  | 0x15 => .wEnable b
  | 0x16 => .wId16 b
  | 0x17 => .wFrame b
  | _ => .wId18To1F (w.extractLsb' 8 3) b

/-- Decoding any number: a 13-bit word is decoded, anything wider is rejected by name. -/
def decodeNat (w : Nat) : Except DecodeError Instr :=
  if w < 2 ^ 13 then .ok (decodeWord (BitVec.ofNat 13 w)) else .error .widerThan13Bits

/-- The operation an external event invokes. -/
def decodeEvent : Event → Instr
  | .write w => decodeWord w
  | .step => .step
  | .reset => .reset
  | .pull => .pull
  | .seek t => .seek t

/-- The decoder on a word numbered as spec/opcode_table.json numbers it: the low `nbits` bits of `w`.  A word
of the table is one transaction word; there is no second word and no byte order (R72, R101, R124). -/
def decodeTableWord (nbits w : Nat) : Option Instr :=
  match decodeNat (w % 2 ^ nbits) with
  | .ok i => some i
  | .error _ => none

/-- The word of a write to register `id`: `(id << 8) | byte` (R101, R125). -/
def packWord (id : RegId) (b : Byte) : WriteWord := id ++ b

/-- The encoder: the transaction word of a `W` row (R101; `match` of the row with the byte in bits 7:0); the
`EVENT` and `INTERNAL` rows have no bit pattern (R127). -/
def encodeWord : Instr → Option WriteWord
  | .wP1R0 b => some (packWord 0x00 b)
  | .wP1R1 b => some (packWord 0x01 b)
  | .wP1R2 b => some (packWord 0x02 b)
  | .wP1R3 b => some (packWord 0x03 b)
  | .wP2R0 b => some (packWord 0x04 b)
  | .wP2R1 b => some (packWord 0x05 b)
  | .wP2R2 b => some (packWord 0x06 b)
  | .wP2R3 b => some (packWord 0x07 b)
  | .wTriR0 b => some (packWord 0x08 b)
  | .wTriR1 b => some (packWord 0x09 b)
  | .wTriR2 b => some (packWord 0x0A b)
  | .wTriR3 b => some (packWord 0x0B b)
  | .wNoiR0 b => some (packWord 0x0C b)
  | .wNoiR1 b => some (packWord 0x0D b)
  | .wNoiR2 b => some (packWord 0x0E b)
  | .wNoiR3 b => some (packWord 0x0F b)
  | .wDmcR0 b => some (packWord 0x10 b)
  | .wDmcR1 b => some (packWord 0x11 b)
  | .wDmcR2 b => some (packWord 0x12 b)
  | .wDmcR3 b => some (packWord 0x13 b)
  | .wId14 b => some (packWord 0x14 b)
  | .wEnable b => some (packWord 0x15 b)
  | .wId16 b => some (packWord 0x16 b)
  | .wFrame b => some (packWord 0x17 b)
  | .wId18To1F low b => some (packWord ((0b11#2 ++ low : BitVec 5)) b)
  | .step | .reset | .pull | .seek _
  | .dividerSetPeriod _ _ | .dividerResetCounter _ | .dividerClock _
  | .timerSetPeriodLow8 _ _ | .timerSetPeriodHigh3 _ _ | .timerSetPeriod _ _ | .timerGetPeriod _
  | .timerClock _ | .lengthSetEnabled _ _ | .lengthSetHalt _ _ | .lengthLoad _ _ | .lengthClock _
  | .lengthSilenceChannel _ | .lengthGetValue _ | .envelopeSetConstantVolume _ _ | .envelopeRestart _
  | .envelopeClock _ | .envelopeGetVolume _ | .envelopeSetLoop _ _ | .envelopeSetConstantVolumeMode _ _
  | .sweepTarget _ | .sweepRetune _ | .sweepSilence _ | .sweepClock _ | .sweepSetEnabled _ _
  | .sweepSetNegate _ _ | .sweepSetPeriod _ _ | .sweepSetShiftCount _ _ | .sweepRestart _
  | .pulseWaveAdvance _ | .pulseWaveRestart _ | .pulseWaveOutput _ | .triWaveAdvance | .triWaveOutput
  | .linearCounterClock | .linearCounterSetReloadFlag | .noiseWaveAdvance | .noiseWaveOutput
  | .dmcRestartSample | .dmcFill | .dmcOutputClock | .dmcStepLevel _ | .dmcStartOutputCycle | .dmcOutput
  | .pulseClockTimer _ | .pulseGetValue _ | .pulseClockQuarterFrame _ | .pulseClockHalfFrame _
  | .triangleClockTimer | .triangleClockQuarterFrame | .triangleGetValue | .triangleClockHalfFrame
  | .noiseClockTimer | .noiseGetValue | .noiseClockQuarterFrame | .noiseClockHalfFrame
  | .dmcGetValue | .dmcClockTimer | .dmcClockQuarterFrame | .dmcClockHalfFrame
  | .clockQuarterFrameAll | .clockHalfFrameAll | .fsClock | .fsDoPosition _ _ _ | .fsWriteMode _ _
  | .clockTimers | .mix | .resample | .scale _ | .fifoAppend _ => none

/-- The external event that invokes an operation, if it is issuable from outside (R100, R127). -/
def encode (i : Instr) : Option Event :=
  match i with
  | .step => some .step
  | .reset => some .reset
  | .pull => some .pull
  | .seek t => some (.seek t)
  | i => (encodeWord i).map .write

/-- `match` and `mask` of a `W` row of spec/opcode_table.json (R127). -/
structure Row where
  pattern : WriteWord
  mask : WriteWord
  deriving DecidableEq, Repr

/-- The 25 `W` rows: ids 0x00 to 0x17 one each (`mask = 0x1F00`), ids 0x18 to 0x1F together (`mask = 0x1800`,
R293). -/
def writeRows : List Row :=
  (List.range 24).map (fun id => ⟨BitVec.ofNat 13 (id * 256), 0x1F00⟩) ++ [⟨0x1800, 0x1800⟩]

/-- A word lies in a row when its masked bits are the row's pattern. -/
def Row.covers (r : Row) (w : WriteWord) : Bool := w &&& r.mask == r.pattern

end Sys2Proof
end

