-- ==== Sys2Proof/Machine/State.lean ====
section
/-! DEFINITION. The block's state (spec/10_state.md R20 to R39) as plain data, its value after reset (R42,
R381), and the reasons a step can stop.  Field names are the spec's paths: `s.p1.timer.div.period` is
`p1.timer.div.period`. -/

namespace Sys2Proof.Machine

/-- A Divider of width `w` (R25, R140). -/
structure Divider (w : Nat) where
  period : BitVec w
  counter : BitVec w
  deriving DecidableEq, Repr

/-- A Timer: one Divider; `min_period` is a constant of the timer, not state (R26, R54, R145). -/
structure Timer (w : Nat) where
  div : Divider w
  deriving DecidableEq, Repr

/-- A LengthCounter (R27, R160). -/
structure LengthCounter where
  enabled : Bool
  halt : Bool
  counter : BitVec 8
  deriving DecidableEq, Repr

/-- A VolumeEnvelope (R28, R170). -/
structure Envelope where
  restart : Bool
  loop : Bool
  counter : BitVec 4
  constantMode : Bool
  constantLevel : BitVec 4
  div : Divider 4
  deriving DecidableEq, Repr

/-- A SweepUnit; `target` and `silence` are derived signals (R29, R30, R180). -/
structure SweepUnit where
  enabled : Bool
  negate : Bool
  reload : Bool
  shift : BitVec 3
  div : Divider 3
  deriving DecidableEq, Repr

/-- A pulse channel; its four latches stand in `RegFile` (R31, R32). -/
structure Pulse where
  timer : Timer 11
  len : LengthCounter
  env : Envelope
  sweep : SweepUnit
  duty : BitVec 2
  phase : BitVec 3
  deriving DecidableEq, Repr

/-- The triangle channel (R33). -/
structure Triangle where
  timer : Timer 11
  len : LengthCounter
  control : Bool
  reloadValue : BitVec 7
  lin : BitVec 7
  reloadFlag : Bool
  phase : BitVec 5
  deriving DecidableEq, Repr

/-- The noise channel (R34). -/
structure Noise where
  timer : Timer 11
  len : LengthCounter
  env : Envelope
  mode : Bool
  periodIndex : BitVec 4
  lfsr : BitVec 15
  deriving DecidableEq, Repr

/-- The sample-playback channel (R35). -/
structure Dmc where
  timer : Timer 8
  irqEnable : Bool
  loop : Bool
  rateIndex : BitVec 4
  level : BitVec 7
  curAddr : Addr
  remaining : BitVec 12
  buf : Byte
  bufFull : Bool
  shift : Byte
  bits : BitVec 4
  silence : Bool
  irqFlag : Bool
  deriving DecidableEq, Repr

/-- The sequencer's mode bit: 0 is 4-step, 1 is 5-step (R36, R53). -/
inductive FsMode where
  | fourStep
  | fiveStep
  deriving DecidableEq, Repr

/-- The FrameSequencer (R36). -/
structure FrameSequencer where
  mode : FsMode
  step : BitVec 3
  irqInhibit : Bool
  irqFlag : Bool
  div : Divider 13
  deriving DecidableEq, Repr

/-- The Mixer: `acc` and `count` are natural numbers, `sum` an exact rational (R37, R328, R329). -/
structure Mixer where
  acc : Nat
  sum : Rat
  count : Nat
  deriving DecidableEq, Repr

/-- The StreamBuffer; `cap` is `FIFO_CAPACITY`, constant (R39, R340). -/
structure Fifo where
  seq : List Sample
  off : Nat
  cap : Nat
  drops : Nat
  deriving DecidableEq, Repr

/-- The four raw register bytes of one channel (R21). -/
structure Latches where
  r0 : Byte
  r1 : Byte
  r2 : Byte
  r3 : Byte
  deriving DecidableEq, Repr

/-- The 20 raw latches `reg[0x00] .. reg[0x13]`: `reg[4*c + r]` is register `r` of channel `c`, the channels in
the order p1, p2, tri, noi, dmc (R21). -/
structure RegFile where
  p1 : Latches
  p2 : Latches
  tri : Latches
  noi : Latches
  dmc : Latches
  deriving DecidableEq, Repr

/-- What a function-style operation returns (`X.Op() -> r`, R8). -/
inductive Result where
  | nothing
  | flag (b : Bool)
  | num (n : Nat)
  | rational (q : Rat)
  | sample (x : Sample)
  | noData
  | samples (xs : List Sample)
  deriving DecidableEq, Repr

/-- The MODEL's own fields, which hold what R12 says a claim can observe besides state, each sequence oldest
first: the value the last function-style operation returned (the answer of `PULL` among them), the addresses
presented to `MemRead`, the samples given to `Fifo.append`, and the samples `PULL` returned.  No operation reads
them.  notes/assumptions/6.md. -/
structure Observed where
  result : Result
  reads : List Addr
  emitted : List Sample
  delivered : List Sample
  deriving DecidableEq, Repr

/-- The whole state (R20), with the sample memory as data (`mem`, notes/assumptions/2.md) and the external
events not yet taken, in their total order (`pending`, notes/assumptions/1.md). -/
structure State where
  reg : RegFile
  p1 : Pulse
  p2 : Pulse
  tri : Triangle
  noi : Noise
  dmc : Dmc
  fs : FrameSequencer
  mix : Mixer
  phase2 : Bool
  fifo : Fifo
  mem : List Host.Cell
  pending : List Event
  obs : Observed
  deriving DecidableEq, Repr

/-- The reasons a step faults: NONE.  "The block raises no synchronous exception: no event faults, traps, aborts
or returns an error" (R355), so the type has no constructor and nobody can raise one; notes/assumptions/15.md
(safe: nothing is stopped that the block would do). -/
inductive Fault where
  deriving DecidableEq, Repr

/-- The reasons an operation is refused. -/
inductive Refusal where
  /-- Raised only by an arm of `exec` (Machine/Dispatch.lean) for an operation that has no meaning yet; safe.  No
  arm raises it: every row of the table has its meaning. -/
  | notModelled (mnemonic : String)
  deriving DecidableEq, Repr

/-- Reset value of a Divider: counter equal to period (C10, R42). -/
def Divider.full {w : Nat} (p : BitVec w) : Divider w := ⟨p, p⟩

/-- Reset value of the LengthCounters (R27, R42). -/
def LengthCounter.reset : LengthCounter := ⟨false, false, 0⟩

/-- Reset value of the VolumeEnvelopes (R28, R42). -/
def Envelope.reset : Envelope := ⟨false, false, 0, false, 0, Divider.full 0⟩

/-- Reset value of the SweepUnits (R29, R42). -/
def SweepUnit.reset : SweepUnit := ⟨false, false, false, 0, Divider.full 0⟩

/-- Reset value of the pulse channels (R31, R32, R42). -/
def Pulse.reset : Pulse :=
  ⟨⟨Divider.full 0⟩, LengthCounter.reset, Envelope.reset, SweepUnit.reset, 0, 0⟩

/-- Reset value of the triangle channel (R33, R42). -/
def Triangle.reset : Triangle := ⟨⟨Divider.full 0⟩, LengthCounter.reset, false, 0, 0, false, 0⟩

/-- Reset value of the noise channel: timer (1, 1), shift register 0x0001 (R34, R42). -/
def Noise.reset : Noise :=
  ⟨⟨Divider.full 1⟩, LengthCounter.reset, Envelope.reset, false, 0, 0x0001⟩

/-- Reset value of the sample-playback channel: timer (213, 213), `bits` 8, `silence` 1 (R35, R42). -/
def Dmc.reset : Dmc :=
  { timer := ⟨Divider.full 213⟩, irqEnable := false, loop := false, rateIndex := 0, level := 0, curAddr := 0,
    remaining := 0, buf := 0, bufFull := false, shift := 0, bits := 8, silence := true, irqFlag := false }

/-- Reset value of the sequencer (R36, R42). -/
def FrameSequencer.reset : FrameSequencer :=
  ⟨.fourStep, 0, false, false, Divider.full Config.fsStepPeriod⟩

/-- Reset value of the Mixer (R37, R42). -/
def Mixer.reset : Mixer := ⟨0, 0, 0⟩

/-- Reset value of a channel's four latches (R21, R42). -/
def Latches.reset : Latches := ⟨0, 0, 0, 0⟩

/-- Reset value of the latches (R21, R42). -/
def RegFile.reset : RegFile :=
  ⟨Latches.reset, Latches.reset, Latches.reset, Latches.reset, Latches.reset⟩

/-- The FIFO at construction: empty (R39, R381). -/
def Fifo.atConstruction : Fifo := ⟨[], 0, Config.fifoCapacity, 0⟩

/-- The state at construction, which is the state after `RESET` with an empty FIFO (R381); no event has been
issued and no sample byte set (notes/assumptions/10.md for the model's own fields). -/
def State.reset : State :=
  { reg := RegFile.reset, p1 := Pulse.reset, p2 := Pulse.reset, tri := Triangle.reset, noi := Noise.reset,
    dmc := Dmc.reset, fs := FrameSequencer.reset, mix := Mixer.reset, phase2 := false,
    fifo := Fifo.atConstruction, mem := [], pending := [], obs := ⟨.nothing, [], [], []⟩ }

end Sys2Proof.Machine
end

