-- ==== Sys2Proof/Machine/Operands.lean ====
section
/-! DEFINITION. Operand forms: the fields of each register byte (spec/30_encoding.md R104 to R122) and the
constant tables the fields select from (R163, R196, R200, R210, R216, R303).  "Every field is extracted by mask
and shift and read as an unsigned integer" (R122). -/

namespace Sys2Proof.Machine

namespace Field

/-- `D` of P1_R0, P2_R0: bits 7:6 (R104). -/
def duty (b : Byte) : BitVec 2 := b.extractLsb' 6 2
/-- `L` of P1_R0, P2_R0, NOI_R0: bit 5, "length-counter-halt (shared bit with envelope loop)" (R104, R112). -/
def halt (b : Byte) : Bool := b.getLsbD 5
/-- `C` of P1_R0, P2_R0, NOI_R0: bit 4, "constant-volume-mode flag" (R104, R112). -/
def constantMode (b : Byte) : Bool := b.getLsbD 4
/-- `V` of P1_R0, P2_R0, NOI_R0: bits 3:0, "4-bit volume/envelope-rate" (R104, R112). -/
def volume (b : Byte) : BitVec 4 := b.extractLsb' 0 4
/-- `E` of P1_R1, P2_R1: bit 7 (R105). -/
def sweepEnabled (b : Byte) : Bool := b.getLsbD 7
/-- `P` of P1_R1, P2_R1: bits 6:4 (R105). -/
def sweepPeriod (b : Byte) : BitVec 3 := b.extractLsb' 4 3
/-- `N` of P1_R1, P2_R1: bit 3 (R105). -/
def sweepNegate (b : Byte) : Bool := b.getLsbD 3
/-- `S` of P1_R1, P2_R1: bits 2:0 (R105). -/
def sweepShift (b : Byte) : BitVec 3 := b.extractLsb' 0 3
/-- `L` of P1_R3, P2_R3, TRI_R3, NOI_R3: bits 7:3 (R107, R111, R115). -/
def lengthIndex (b : Byte) : BitVec 5 := b.extractLsb' 3 5
/-- `H` of P1_R3, P2_R3, TRI_R3: bits 2:0 (R107, R111). -/
def timerHigh (b : Byte) : BitVec 3 := b.extractLsb' 0 3
/-- `C` of TRI_R0: bit 7 (R108). -/
def triControl (b : Byte) : Bool := b.getLsbD 7
/-- `R` of TRI_R0: bits 6:0 (R108). -/
def triReload (b : Byte) : BitVec 7 := b.extractLsb' 0 7
/-- `M` of NOI_R2: bit 7 (R114). -/
def noiseMode (b : Byte) : Bool := b.getLsbD 7
/-- `P` of NOI_R2: bits 3:0 (R114). -/
def noiseIndex (b : Byte) : BitVec 4 := b.extractLsb' 0 4
/-- `I` of DMC_R0: bit 7 (R116). -/
def dmcIrqEnable (b : Byte) : Bool := b.getLsbD 7
/-- `L` of DMC_R0: bit 6 (R116). -/
def dmcLoop (b : Byte) : Bool := b.getLsbD 6
/-- `R` of DMC_R0: bits 3:0 (R116). -/
def dmcRate (b : Byte) : BitVec 4 := b.extractLsb' 0 4
/-- `D` of DMC_R1: bits 6:0 (R117). -/
def dmcLevel (b : Byte) : BitVec 7 := b.extractLsb' 0 7
/-- `1` of ENABLE: bit 0 (R120). -/
def enableP1 (b : Byte) : Bool := b.getLsbD 0
/-- `2` of ENABLE: bit 1 (R120). -/
def enableP2 (b : Byte) : Bool := b.getLsbD 1
/-- `T` of ENABLE: bit 2 (R120). -/
def enableTri (b : Byte) : Bool := b.getLsbD 2
/-- `N` of ENABLE: bit 3 (R120). -/
def enableNoi (b : Byte) : Bool := b.getLsbD 3
/-- `D` of ENABLE: bit 4 (R120). -/
def enableDmc (b : Byte) : Bool := b.getLsbD 4
/-- `M` of FRAME: bit 7 (R121). -/
def frameMode (b : Byte) : Bool := b.getLsbD 7
/-- `I` of FRAME: bit 6 (R121). -/
def frameInhibit (b : Byte) : Bool := b.getLsbD 6

end Field

/-- The mode a FRAME mode bit names: 0 is 4-step, 1 is 5-step (R53, R121). -/
def FsMode.ofBit (m : Bool) : FsMode := if m then .fiveStep else .fourStep

/-- `LENGTH_TABLE` (R163). -/
def lengthTable : List Nat :=
  [10, 254, 20, 2, 40, 4, 80, 6, 160, 8, 60, 10, 14, 12, 26, 14] ++
  [12, 16, 24, 18, 48, 20, 96, 22, 192, 24, 72, 26, 16, 28, 32, 30]

/-- `LENGTH_TABLE[i]` as a counter value. -/
def lengthEntry (i : BitVec 5) : BitVec 8 := BitVec.ofNat 8 (lengthTable.getD i.toNat 0)

/-- `DUTY_TABLE` (R196), the four sequences from phase 0 to phase 7. -/
def dutyTable : List (List Bool) :=
  [[false, true, false, false, false, false, false, false],
   [false, true, true, false, false, false, false, false],
   [false, true, true, true, true, false, false, false],
   [true, false, false, true, true, true, true, true]]

/-- `DUTY_TABLE[duty][phase]`. -/
def dutyBit (duty : BitVec 2) (phase : BitVec 3) : Bool :=
  (dutyTable.getD duty.toNat []).getD phase.toNat false

/-- `TRI_SEQ` (R200). -/
def triSequence : List Nat :=
  [15, 14, 13, 12, 11, 10, 9, 8, 7, 6, 5, 4, 3, 2, 1, 0] ++
  [0, 1, 2, 3, 4, 5, 6, 7, 8, 9, 10, 11, 12, 13, 14, 15]

/-- `TRI_SEQ[phase]`. -/
def triLevel (phase : BitVec 5) : Nat := triSequence.getD phase.toNat 0

/-- `NOISE_PERIOD`, in CPU cycles (R210). -/
def noisePeriodTable : List Nat :=
  [4, 8, 16, 32, 64, 96, 128, 160, 202, 254, 380, 508, 762, 1016, 2034, 4068]

/-- The Divider period loaded for a noise period index: `NOISE_PERIOD[i] / 2 - 1` (R211, R280). -/
def noiseDividerPeriod (i : BitVec 4) : BitVec 11 := BitVec.ofNat 11 (noisePeriodTable.getD i.toNat 0 / 2 - 1)

/-- `DMC_RATE`, in CPU cycles per output bit (R216). -/
def dmcRateTable : List Nat :=
  [428, 380, 340, 320, 286, 254, 226, 214, 190, 160, 142, 128, 106, 84, 72, 54]

/-- The Divider period loaded for a rate index: `DMC_RATE[i] / 2 - 1` (R217, R283). -/
def dmcDividerPeriod (i : BitVec 4) : BitVec 8 := BitVec.ofNat 8 (dmcRateTable.getD i.toNat 0 / 2 - 1)

/-- `dmc.sample_address = 0xC000 + 64 * reg[0x12]` (R35, R118). -/
def sampleAddress (r : Latches) : Addr := BitVec.ofNat 16 (0xC000 + 64 * r.r2.toNat)

/-- `dmc.sample_length = 16 * reg[0x13] + 1` (R35, R119). -/
def sampleLength (r : Latches) : BitVec 12 := BitVec.ofNat 12 (16 * r.r3.toNat + 1)

/-- The number of positions of a mode's sequence (R303). -/
def FsMode.positions : FsMode → Nat
  | .fourStep => 4
  | .fiveStep => 5

/-- `FS_PATTERN[mode][position]` as the triple (quarter, half, irq) (R303).  Position 4 of the 4-step mode and
positions 5 to 7 do not exist and are in no reachable state (R41 (h)); notes/assumptions/9.md. -/
def fsPattern : FsMode → Nat → Bool × Bool × Bool
  | .fourStep, 0 => (true, false, false)
  | .fourStep, 1 => (true, true, false)
  | .fourStep, 2 => (true, false, false)
  | .fourStep, 3 => (true, true, true)
  | .fiveStep, 0 => (true, false, false)
  | .fiveStep, 1 => (true, true, false)
  | .fiveStep, 2 => (true, false, false)
  | .fiveStep, 3 => (true, true, false)
  | _, _ => (false, false, false)

/-- `min_period`: 2 for the triangle's timer, 0 for the others (R26, D8). -/
def minPeriod : TimerId → Nat
  | .tri => 2
  | .p1 => 0
  | .p2 => 0
  | .noi => 0
  | .dmc => 0

/-- `subtract_extra`: 1 for `p1.sweep`, 0 for `p2.sweep` (R29, D9). -/
def subtractExtra : PulseId → Nat
  | .p1 => 1
  | .p2 => 0

/-- `PULSE_TABLE[n] = 597 n / (50800 + 625 n)`, exact (R326). -/
def pulseTable (n : Nat) : Rat := mkRat (597 * n) (50800 + 625 * n)

/-- `TND_TABLE[n] = 16367 n / (2432900 + 10000 n)`, exact (R326). -/
def tndTable (n : Nat) : Rat := mkRat (16367 * n) (2432900 + 10000 * n)

end Sys2Proof.Machine
end

