-- ==== Sys2Proof/Machine/Ops.lean ====
section
/-! DEFINITION. The named operations over the state that every family uses: the sample memory, access to one
component by its name, the value an operation returns, the addresses presented to `MemRead`, and taking the
next external event.  There is no exception entry or return: "Trap entry: the block has none" (R364), "the block
has no return operation" (R365); the interrupt flags are in Flags.lean. -/

namespace Sys2Proof.Machine

/-! ## The sample memory (R70, R86): a list of (address, byte) pairs, addresses rising, no entry equal to what an
unlisted address reads as. -/

/-- What an address that nothing has set reads as.  The spec leaves the sample memory's content OPEN (R6);
DESIGN CHOICE, unsafe for a claim about the run from `State.reset`, notes/assumptions/2.md. -/
def Memory.unlisted : Byte := 0x00

/-- `MemRead(addr, 1)`: one byte, no side effect (R8, R74). -/
def Memory.read (m : List Host.Cell) (a : Addr) : Byte := (m.lookup a.toNat).getD Memory.unlisted

/-- Set one cell, keeping the canonical form. -/
def Memory.set : List Host.Cell → Nat → Byte → List Host.Cell
  | [], k, b => if b = Memory.unlisted then [] else [(k, b)]
  | (k', b') :: m, k, b =>
    if k < k' then if b = Memory.unlisted then (k', b') :: m else (k, b) :: (k', b') :: m
    else if k = k' then if b = Memory.unlisted then m else (k, b) :: m
    else (k', b') :: Memory.set m k b

/-- The host sets one byte of the sample memory.  No operation of the block does: "the block never writes it"
(R70); the host may, between events (R86). -/
def Memory.write (m : List Host.Cell) (a : Addr) (b : Byte) : List Host.Cell := Memory.set m a.toNat b

/-- The cells are in canonical form from address `lo` on. -/
def Memory.wfFrom : Nat → List Host.Cell → Bool
  | _, [] => true
  | lo, (k, b) :: m => decide (lo ≤ k) && decide (k < 0x10000) && decide (b ≠ Memory.unlisted) && Memory.wfFrom (k + 1) m

/-- The canonical form: addresses of the 16-bit space, strictly rising, no entry equal to the unlisted byte. -/
def Memory.wf (m : List Host.Cell) : Bool := Memory.wfFrom 0 m

/-- The host changes one byte of the sample memory between two events (R86, notes/assumptions/3.md). -/
def State.setSampleByte (s : State) (a : Addr) (b : Byte) : State := { s with mem := Memory.write s.mem a b }

/-! ## Observations (R12) -/

/-- An operation returns `r` (R8: "A function-style operation `X.Op() -> r` returns `r`"). -/
def State.returning (s : State) (r : Result) : State := { s with obs.result := r }

/-! ## One component by its name -/

/-- The timer `X.timer`. -/
def State.timer (s : State) : (t : TimerId) → Timer t.width
  | .p1 => s.p1.timer
  | .p2 => s.p2.timer
  | .tri => s.tri.timer
  | .noi => s.noi.timer
  | .dmc => s.dmc.timer

/-- Replace the timer `X.timer`. -/
def State.setTimer (s : State) : (t : TimerId) → Timer t.width → State
  | .p1, v => { s with p1.timer := v }
  | .p2, v => { s with p2.timer := v }
  | .tri, v => { s with tri.timer := v }
  | .noi, v => { s with noi.timer := v }
  | .dmc, v => { s with dmc.timer := v }

/-- The length counter `X.len`. -/
def State.len (s : State) : LengthId → LengthCounter
  | .p1 => s.p1.len
  | .p2 => s.p2.len
  | .tri => s.tri.len
  | .noi => s.noi.len

/-- Replace the length counter `X.len`. -/
def State.setLen (s : State) : LengthId → LengthCounter → State
  | .p1, v => { s with p1.len := v }
  | .p2, v => { s with p2.len := v }
  | .tri, v => { s with tri.len := v }
  | .noi, v => { s with noi.len := v }

/-- The envelope `X.env`. -/
def State.env (s : State) : EnvelopeId → Envelope
  | .p1 => s.p1.env
  | .p2 => s.p2.env
  | .noi => s.noi.env

/-- Replace the envelope `X.env`. -/
def State.setEnv (s : State) : EnvelopeId → Envelope → State
  | .p1, v => { s with p1.env := v }
  | .p2, v => { s with p2.env := v }
  | .noi, v => { s with noi.env := v }

/-- The pulse channel `X`. -/
def State.pulse (s : State) : PulseId → Pulse
  | .p1 => s.p1
  | .p2 => s.p2

/-- Replace the pulse channel `X`. -/
def State.setPulse (s : State) : PulseId → Pulse → State
  | .p1, v => { s with p1 := v }
  | .p2, v => { s with p2 := v }

/-- The Divider `d` (R25). -/
def State.divider (s : State) : (d : DividerId) → Divider d.width
  | .timer t => (s.timer t).div
  | .env e => (s.env e).div
  | .sweep x => (s.pulse x).sweep.div
  | .fs => s.fs.div

/-- Replace the Divider `d`. -/
def State.setDivider (s : State) : (d : DividerId) → Divider d.width → State
  | .timer t, v => s.setTimer t ⟨v⟩
  | .env e, v => s.setEnv e { s.env e with div := v }
  | .sweep x, v => s.setPulse x { s.pulse x with sweep.div := v }
  | .fs, v => { s with fs.div := v }

/-- The 11-bit timer `X.timer` of p1, p2 or tri. -/
def State.splitTimer (s : State) : SplitTimerId → Timer 11
  | .p1 => s.p1.timer
  | .p2 => s.p2.timer
  | .tri => s.tri.timer

/-- Replace the 11-bit timer of p1, p2 or tri. -/
def State.setSplitTimer (s : State) : SplitTimerId → Timer 11 → State
  | .p1, v => { s with p1.timer := v }
  | .p2, v => { s with p2.timer := v }
  | .tri, v => { s with tri.timer := v }

/-- Run an operation of the sample-playback channel, which may present one address to `MemRead` (R12 (c)). -/
def State.onDmc (s : State) (f : Latches → List Host.Cell → Dmc → Dmc × Option Addr) : State :=
  let r := f s.reg.dmc s.mem s.dmc
  { s with dmc := r.1, obs.reads := s.obs.reads ++ r.2.toList }

/-! ## External events (R10, R80) -/

/-- Take the next event: its operation, and the state without it.  Events are taken one at a time in their
total order (R80, R83). -/
def State.fetch (s : State) : Option (Instr × State) :=
  match s.pending with
  | [] => none
  | e :: rest => some (decodeEvent e, { s with pending := rest })

/-- Issue a `WRITE` word as the very next event: the low `nbits` bits of `w`, as the table numbers them. -/
def State.issueWord (s : State) (nbits w : Nat) : State :=
  { s with pending := .write (BitVec.ofNat 13 (w % 2 ^ nbits)) :: s.pending }

end Sys2Proof.Machine
end

