-- ==== Sys2Proof/Machine/Flags.lean ====
section
/-! DEFINITION. The one-bit flags of R24 and the interrupt level (spec/60_exceptions.md).  "The words "raise an
interrupt flag" of the source mean exactly `flag <- 1`" (R358): setting a flag saves nothing and redirects
nothing. -/

namespace Sys2Proof.Machine

/-- `X.env.restart <- 1`, the restart-pending flag (R24, R172). -/
def Envelope.armRestart (e : Envelope) : Envelope := { e with restart := true }

/-- `X.sweep.reload <- 1`, the reload-pending flag (R24, R189). -/
def SweepUnit.armReload (u : SweepUnit) : SweepUnit := { u with reload := true }

/-- `tri.reload_flag <- 1` (R24, R207). -/
def Triangle.armReload (t : Triangle) : Triangle := { t with reloadFlag := true }

/-- `fs.irq_flag <- 1` (R24, R302, R357). -/
def FrameSequencer.raiseIrq (f : FrameSequencer) : FrameSequencer := { f with irqFlag := true }

/-- `fs.irq_flag <- 0` (R24, R304, R357). -/
def FrameSequencer.clearIrq (f : FrameSequencer) : FrameSequencer := { f with irqFlag := false }

/-- `dmc.irq_flag <- 1` (R24, R219, R357). -/
def Dmc.raiseIrq (d : Dmc) : Dmc := { d with irqFlag := true }

/-- `dmc.irq_flag <- 0` (R24, R283, R290, R357). -/
def Dmc.clearIrq (d : Dmc) : Dmc := { d with irqFlag := false }

/-- `irq_out = fs.irq_flag | dmc.irq_flag`, a derived level (R361). -/
def State.irqOut (s : State) : Bool := s.fs.irqFlag || s.dmc.irqFlag

/-- `l.counter = 0`: "The channel is silenced exactly when the counter reads 0" (R165). -/
def LengthCounter.silences (l : LengthCounter) : Bool := decide (l.counter = 0)

/-- The sweep unit's target period, with `c` the bound timer's live period and `extra` its `subtract_extra`
(R181).  The natural-number subtraction is R181's clamp at 0. -/
def SweepUnit.target (u : SweepUnit) (extra : Nat) (c : BitVec 11) : Nat :=
  if u.negate then c.toNat - (c.toNat >>> u.shift.toNat) - extra else c.toNat + (c.toNat >>> u.shift.toNat)

/-- The sweep unit's silence signal (R183): a function of the live period, whatever `enabled` is. -/
def SweepUnit.silences (u : SweepUnit) (extra : Nat) (c : BitVec 11) : Bool :=
  decide (c.toNat < 8) || decide (u.target extra c > 0x7FF)

end Sys2Proof.Machine
end

