-- ==== Sys2Proof/Machine/DividerTimer.lean ====
section
/-! DEFINITION. The Divider and the Timer (spec/40_divider_timer.md). -/

namespace Sys2Proof.Machine

/-- `Divider.SetPeriod(p)`: "sets the period without touching the counter" (R141). -/
def Divider.setPeriod {w : Nat} (d : Divider w) (p : BitVec w) : Divider w := { d with period := p }

/-- `Divider.ResetCounter()`: "sets counter = period" (R142). -/
def Divider.resetCounter {w : Nat} (d : Divider w) : Divider w := { d with counter := d.period }

/-- `Divider.Clock() -> fired` (R143): the Divider after the clock, and whether it fired. -/
def Divider.clock {w : Nat} (d : Divider w) : Divider w × Bool :=
  if d.counter = 0 then ({ d with counter := d.period }, true)
  else ({ d with counter := d.counter - 1 }, false)

/-- `Timer.SetPeriodLow8(v)` (R146). -/
def Timer.setPeriodLow8 (t : Timer 11) (v : BitVec 8) : Timer 11 :=
  { t with div := t.div.setPeriod ((t.div.period &&& 0x700) ||| v.setWidth 11) }

/-- `Timer.SetPeriodHigh3(v)`: the period is assembled, then the counter is reset to it (R147). -/
def Timer.setPeriodHigh3 (t : Timer 11) (v : BitVec 3) : Timer 11 :=
  { t with div := (t.div.setPeriod ((v.setWidth 11 <<< 8) ||| (t.div.period &&& 0x0FF))).resetCounter }

/-- `Timer.SetPeriod(p)` (R148). -/
def Timer.setPeriod {w : Nat} (t : Timer w) (p : BitVec w) : Timer w := { t with div := t.div.setPeriod p }

/-- `Timer.GetPeriod() -> p` (R149). -/
def Timer.getPeriod {w : Nat} (t : Timer w) : BitVec w := t.div.period

/-- `Timer.Clock() -> advance`, with the timer's `min_period` (R150): gated, the Divider is not clocked. -/
def Timer.clock {w : Nat} (t : Timer w) (minPeriod : Nat) : Timer w × Bool :=
  if t.div.period.toNat < minPeriod then (t, false)
  else ({ t with div := t.div.clock.1 }, t.div.clock.2)

/-- `Divider.SetPeriod` (R141). -/
def execDividerSetPeriod (d : DividerId) (p : BitVec d.width) (s : State) : Host.Outcome State Fault Refusal :=
  .next (s.setDivider d ((s.divider d).setPeriod p))

/-- `Divider.ResetCounter` (R142). -/
def execDividerResetCounter (d : DividerId) (s : State) : Host.Outcome State Fault Refusal :=
  .next (s.setDivider d (s.divider d).resetCounter)

/-- `Divider.Clock` (R143). -/
def execDividerClock (d : DividerId) (s : State) : Host.Outcome State Fault Refusal :=
  .next ((s.setDivider d (s.divider d).clock.1).returning (.flag (s.divider d).clock.2))

/-- `Timer.SetPeriodLow8` (R146). -/
def execTimerSetPeriodLow8 (t : SplitTimerId) (v : BitVec 8) (s : State) : Host.Outcome State Fault Refusal :=
  .next (s.setSplitTimer t ((s.splitTimer t).setPeriodLow8 v))

/-- `Timer.SetPeriodHigh3` (R147). -/
def execTimerSetPeriodHigh3 (t : SplitTimerId) (v : BitVec 3) (s : State) : Host.Outcome State Fault Refusal :=
  .next (s.setSplitTimer t ((s.splitTimer t).setPeriodHigh3 v))

/-- `Timer.SetPeriod` (R148). -/
def execTimerSetPeriod (t : TimerId) (p : BitVec t.width) (s : State) : Host.Outcome State Fault Refusal :=
  .next (s.setTimer t ((s.timer t).setPeriod p))

/-- `Timer.GetPeriod` (R149). -/
def execTimerGetPeriod (t : TimerId) (s : State) : Host.Outcome State Fault Refusal :=
  .next (s.returning (.num (s.timer t).getPeriod.toNat))

/-- `Timer.Clock` (R150). -/
def execTimerClock (t : TimerId) (s : State) : Host.Outcome State Fault Refusal :=
  .next ((s.setTimer t ((s.timer t).clock (minPeriod t)).1).returning
    (.flag ((s.timer t).clock (minPeriod t)).2))

end Sys2Proof.Machine
end

