-- ==== Sys2Proof/Machine/EnvelopeUnit.lean ====
section
/-! DEFINITION. The VolumeEnvelope (spec/42_envelope.md). -/

namespace Sys2Proof.Machine

/-- `Envelope.SetConstantVolume(v)`: the field is stored as the level and as the divider's period (R171). -/
def Envelope.setConstantVolume (e : Envelope) (v : BitVec 4) : Envelope :=
  { e with constantLevel := v, div := e.div.setPeriod v }

/-- `Envelope.SetLoop(b)` (R176). -/
def Envelope.setLoop (e : Envelope) (b : Bool) : Envelope := { e with loop := b }

/-- `Envelope.SetConstantVolumeMode(b)` (R177). -/
def Envelope.setConstantVolumeMode (e : Envelope) (b : Bool) : Envelope := { e with constantMode := b }

/-- The decay counter when the internal divider fires: one down, or at 0 hold or reload (R173). -/
def Envelope.decay (e : Envelope) : Envelope :=
  if e.counter ≠ 0 then { e with counter := e.counter - 1 }
  else if e.loop then { e with counter := 15 } else e

/-- `Envelope.Clock()` (R173). -/
def Envelope.clock (e : Envelope) : Envelope :=
  if e.restart then { e with restart := false, counter := 15, div := e.div.resetCounter }
  else if e.div.clock.2 then ({ e with div := e.div.clock.1 } : Envelope).decay
  else { e with div := e.div.clock.1 }

/-- `Envelope.GetVolume() -> v` (R174). -/
def Envelope.getVolume (e : Envelope) : BitVec 4 := if e.constantMode then e.constantLevel else e.counter

/-- `Envelope.SetConstantVolume` (R171). -/
def execEnvelopeSetConstantVolume (e : EnvelopeId) (v : BitVec 4) (s : State) :
    Host.Outcome State Fault Refusal :=
  .next (s.setEnv e ((s.env e).setConstantVolume v))

/-- `Envelope.Restart`: "arms a one-shot flag" (R172). -/
def execEnvelopeRestart (e : EnvelopeId) (s : State) : Host.Outcome State Fault Refusal :=
  .next (s.setEnv e (s.env e).armRestart)

/-- `Envelope.Clock` (R173). -/
def execEnvelopeClock (e : EnvelopeId) (s : State) : Host.Outcome State Fault Refusal :=
  .next (s.setEnv e (s.env e).clock)

/-- `Envelope.GetVolume` (R174). -/
def execEnvelopeGetVolume (e : EnvelopeId) (s : State) : Host.Outcome State Fault Refusal :=
  .next (s.returning (.num (s.env e).getVolume.toNat))

/-- `Envelope.SetLoop` (R176). -/
def execEnvelopeSetLoop (e : EnvelopeId) (b : Bool) (s : State) : Host.Outcome State Fault Refusal :=
  .next (s.setEnv e ((s.env e).setLoop b))

/-- `Envelope.SetConstantVolumeMode` (R177). -/
def execEnvelopeSetConstantVolumeMode (e : EnvelopeId) (b : Bool) (s : State) :
    Host.Outcome State Fault Refusal :=
  .next (s.setEnv e ((s.env e).setConstantVolumeMode b))

end Sys2Proof.Machine
end

