-- ==== Sys2Proof/Machine/Length.lean ====
section
/-! DEFINITION. The LengthCounter (spec/41_length_counter.md). -/

namespace Sys2Proof.Machine

/-- `LengthCounter.SetEnabled(e)`: clearing zeroes the counter at once (R161). -/
def LengthCounter.setEnabled (l : LengthCounter) (e : Bool) : LengthCounter :=
  if e then { l with enabled := true } else { l with enabled := false, counter := 0 }

/-- `LengthCounter.SetHalt(h)` (R162). -/
def LengthCounter.setHalt (l : LengthCounter) (h : Bool) : LengthCounter := { l with halt := h }

/-- `LengthCounter.LoadCounterFromLengthTable(i)`: "no-op while disabled" (R163). -/
def LengthCounter.load (l : LengthCounter) (i : BitVec 5) : LengthCounter :=
  if l.enabled then { l with counter := lengthEntry i } else l

/-- `LengthCounter.Clock()` (R164). -/
def LengthCounter.clock (l : LengthCounter) : LengthCounter :=
  if l.halt = false ∧ l.counter ≠ 0 then { l with counter := l.counter - 1 } else l

/-- `LengthCounter.SetEnabled` (R161). -/
def execLengthSetEnabled (l : LengthId) (e : Bool) (s : State) : Host.Outcome State Fault Refusal :=
  .next (s.setLen l ((s.len l).setEnabled e))

/-- `LengthCounter.SetHalt` (R162). -/
def execLengthSetHalt (l : LengthId) (h : Bool) (s : State) : Host.Outcome State Fault Refusal :=
  .next (s.setLen l ((s.len l).setHalt h))

/-- `LengthCounter.LoadCounterFromLengthTable` (R163). -/
def execLengthLoad (l : LengthId) (i : BitVec 5) (s : State) : Host.Outcome State Fault Refusal :=
  .next (s.setLen l ((s.len l).load i))

/-- `LengthCounter.Clock` (R164). -/
def execLengthClock (l : LengthId) (s : State) : Host.Outcome State Fault Refusal :=
  .next (s.setLen l (s.len l).clock)

/-- `LengthCounter.SilenceChannel` (R165). -/
def execLengthSilenceChannel (l : LengthId) (s : State) : Host.Outcome State Fault Refusal :=
  .next (s.returning (.flag (s.len l).silences))

/-- `LengthCounter.GetValue` (R165). -/
def execLengthGetValue (l : LengthId) (s : State) : Host.Outcome State Fault Refusal :=
  .next (s.returning (.num (s.len l).counter.toNat))

end Sys2Proof.Machine
end

