-- ==== Sys2Proof/Machine/Sweep.lean ====
section
/-! DEFINITION. The SweepUnit and its bound timer (spec/43_sweep.md).  The operations act on the pulse channel
`X`, whose `sweep` is bound to its `timer`; the channel's name gives `subtract_extra` (R29). -/

namespace Sys2Proof.Machine

/-- `X.sweep.target`, from the live period (R181). -/
def Pulse.sweepTarget (p : Pulse) (x : PulseId) : Nat := p.sweep.target (subtractExtra x) p.timer.getPeriod

/-- `X.sweep.silence`, from the live period (R183). -/
def Pulse.sweepSilence (p : Pulse) (x : PulseId) : Bool := p.sweep.silences (subtractExtra x) p.timer.getPeriod

/-- `Sweep.Retune(t)` (R182). -/
def Pulse.retune (p : Pulse) (x : PulseId) : Pulse :=
  if p.sweep.enabled ∧ p.sweepSilence x = false ∧ (p.sweep.shift ≠ 0 ∨ Config.sweepShift0Guard = false) then
    { p with timer := p.timer.setPeriod (BitVec.ofNat 11 (p.sweepTarget x)) }
  else p

/-- The sweep unit's divider is always advanced, and a firing applies the retune (R184, both paths). -/
def Pulse.sweepAdvance (p : Pulse) (x : PulseId) : Pulse :=
  if p.sweep.div.clock.2 then ({ p with sweep.div := p.sweep.div.clock.1 } : Pulse).retune x
  else { p with sweep.div := p.sweep.div.clock.1 }

/-- The end of the reload path: reset the divider and clear the reload flag (R184). -/
def SweepUnit.finishReload (u : SweepUnit) : SweepUnit := { u with div := u.div.resetCounter, reload := false }

/-- `Sweep.Clock(t)` (R184). -/
def Pulse.sweepClock (p : Pulse) (x : PulseId) : Pulse :=
  if p.sweep.reload then { p.sweepAdvance x with sweep := (p.sweepAdvance x).sweep.finishReload }
  else p.sweepAdvance x

/-- `Sweep.SetEnabled(b)` (R185). -/
def SweepUnit.setEnabled (u : SweepUnit) (b : Bool) : SweepUnit := { u with enabled := b }

/-- `Sweep.SetNegate(b)` (R186). -/
def SweepUnit.setNegate (u : SweepUnit) (b : Bool) : SweepUnit := { u with negate := b }

/-- `Sweep.SetPeriod(p)` (R187). -/
def SweepUnit.setPeriod (u : SweepUnit) (p : BitVec 3) : SweepUnit := { u with div := u.div.setPeriod p }

/-- `Sweep.SetShiftCount(n)` (R188). -/
def SweepUnit.setShiftCount (u : SweepUnit) (n : BitVec 3) : SweepUnit := { u with shift := n }

/-- `Sweep.Target` (R181). -/
def execSweepTarget (x : PulseId) (s : State) : Host.Outcome State Fault Refusal :=
  .next (s.returning (.num ((s.pulse x).sweepTarget x)))

/-- `Sweep.Retune` (R182). -/
def execSweepRetune (x : PulseId) (s : State) : Host.Outcome State Fault Refusal :=
  .next (s.setPulse x ((s.pulse x).retune x))

/-- `Sweep.Silence` (R183). -/
def execSweepSilence (x : PulseId) (s : State) : Host.Outcome State Fault Refusal :=
  .next (s.returning (.flag ((s.pulse x).sweepSilence x)))

/-- `Sweep.Clock` (R184). -/
def execSweepClock (x : PulseId) (s : State) : Host.Outcome State Fault Refusal :=
  .next (s.setPulse x ((s.pulse x).sweepClock x))

/-- `Sweep.SetEnabled` (R185). -/
def execSweepSetEnabled (x : PulseId) (b : Bool) (s : State) : Host.Outcome State Fault Refusal :=
  .next (s.setPulse x { s.pulse x with sweep := (s.pulse x).sweep.setEnabled b })

/-- `Sweep.SetNegate` (R186). -/
def execSweepSetNegate (x : PulseId) (b : Bool) (s : State) : Host.Outcome State Fault Refusal :=
  .next (s.setPulse x { s.pulse x with sweep := (s.pulse x).sweep.setNegate b })

/-- `Sweep.SetPeriod` (R187). -/
def execSweepSetPeriod (x : PulseId) (p : BitVec 3) (s : State) : Host.Outcome State Fault Refusal :=
  .next (s.setPulse x { s.pulse x with sweep := (s.pulse x).sweep.setPeriod p })

/-- `Sweep.SetShiftCount` (R188). -/
def execSweepSetShiftCount (x : PulseId) (n : BitVec 3) (s : State) : Host.Outcome State Fault Refusal :=
  .next (s.setPulse x { s.pulse x with sweep := (s.pulse x).sweep.setShiftCount n })

/-- `Sweep.Restart` (R189). -/
def execSweepRestart (x : PulseId) (s : State) : Host.Outcome State Fault Refusal :=
  .next (s.setPulse x { s.pulse x with sweep := (s.pulse x).sweep.armReload })

end Sys2Proof.Machine
end

