-- ==== Sys2Proof/Machine/Waveform.lean ====
section
/-! DEFINITION. The waveform generators (spec/44_waveform.md): the pulse's duty sequence, the triangle with its
linear counter, the noise shift register, and the sample-playback channel's memory reader and output unit. -/

namespace Sys2Proof.Machine

/-! ## Pulse (R195 to R199) -/

/-- `PulseWave.Advance()`: `phase <- (phase + 1) mod 8`, the 3-bit sum (R197). -/
def Pulse.advance (p : Pulse) : Pulse := { p with phase := p.phase + 1 }

/-- `PulseWave.Restart()` (R198). -/
def Pulse.restartPhase (p : Pulse) : Pulse := { p with phase := 0 }

/-- `PulseWave.Output() -> b` (R199). -/
def Pulse.waveBit (p : Pulse) : Bool := dutyBit p.duty p.phase

/-- `PulseWave.Advance` (R197). -/
def execPulseWaveAdvance (x : PulseId) (s : State) : Host.Outcome State Fault Refusal :=
  .next (s.setPulse x (s.pulse x).advance)

/-- `PulseWave.Restart` (R198). -/
def execPulseWaveRestart (x : PulseId) (s : State) : Host.Outcome State Fault Refusal :=
  .next (s.setPulse x (s.pulse x).restartPhase)

/-- `PulseWave.Output` (R199). -/
def execPulseWaveOutput (x : PulseId) (s : State) : Host.Outcome State Fault Refusal :=
  .next (s.returning (.flag (s.pulse x).waveBit))

/-! ## Triangle and linear counter (R200 to R207) -/

/-- `TriWave.Advance()`: `phase <- (phase + 1) mod 32`, the 5-bit sum (R201). -/
def Triangle.advance (t : Triangle) : Triangle := { t with phase := t.phase + 1 }

/-- The first statement of `LinearCounter.Clock()`: reload or count down (R206). -/
def Triangle.linStep (t : Triangle) : Triangle :=
  if t.reloadFlag then { t with lin := t.reloadValue }
  else if t.lin ≠ 0 then { t with lin := t.lin - 1 } else t

/-- `LinearCounter.Clock()` (R206). -/
def Triangle.linearClock (t : Triangle) : Triangle :=
  if t.control then t.linStep else { t.linStep with reloadFlag := false }

/-- `TriWave.Advance` (R201). -/
def execTriWaveAdvance (s : State) : Host.Outcome State Fault Refusal :=
  .next { s with tri := s.tri.advance }

/-- `TriWave.Output` (R202). -/
def execTriWaveOutput (s : State) : Host.Outcome State Fault Refusal :=
  .next (s.returning (.num (triLevel s.tri.phase)))

/-- `LinearCounter.Clock` (R206). -/
def execLinearCounterClock (s : State) : Host.Outcome State Fault Refusal :=
  .next { s with tri := s.tri.linearClock }

/-- `LinearCounter.SetReloadFlag` (R207). -/
def execLinearCounterSetReloadFlag (s : State) : Host.Outcome State Fault Refusal :=
  .next { s with tri := s.tri.armReload }

/-! ## Noise (R210 to R213) -/

/-- The feedback bit: bit 0 xor bit 6 in mode 1, bit 0 xor bit 1 in mode 0 (R212). -/
def Noise.feedback (n : Noise) : Bool :=
  Bool.xor (n.lfsr.getLsbD 0) (if n.mode then n.lfsr.getLsbD 6 else n.lfsr.getLsbD 1)

/-- `NoiseWave.Advance()` (R212). -/
def Noise.advance (n : Noise) : Noise :=
  { n with lfsr := (n.lfsr >>> 1) ||| (BitVec.setWidth 15 (BitVec.ofBool n.feedback) <<< 14) }

/-- `NoiseWave.Output() -> b`: `1 - noi.lfsr[0]` (R213). -/
def Noise.waveBit (n : Noise) : Bool := !n.lfsr.getLsbD 0

/-- `NoiseWave.Advance` (R212). -/
def execNoiseWaveAdvance (s : State) : Host.Outcome State Fault Refusal :=
  .next { s with noi := s.noi.advance }

/-- `NoiseWave.Output` (R213). -/
def execNoiseWaveOutput (s : State) : Host.Outcome State Fault Refusal :=
  .next (s.returning (.flag s.noi.waveBit))

/-! ## Sample playback (R215 to R223).  `r` is the channel's latches, `m` the sample memory; the second
component of a result is the address presented to `MemRead`, if one was. -/

/-- `Dmc.RestartSample()` (R218). -/
def Dmc.restartSample (r : Latches) (d : Dmc) : Dmc :=
  { d with curAddr := sampleAddress r, remaining := sampleLength r }

/-- The address after a fetch: 0x8000 after 0xFFFF, else one more (R219). -/
def Dmc.nextAddr (a : Addr) : Addr := if a = 0xFFFF then 0x8000 else a + 1

/-- A fetch: the byte at `cur_addr` into the buffer, the address on by one, the byte count down by one (R219). -/
def Dmc.fetchByte (m : List Host.Cell) (d : Dmc) : Dmc :=
  { d with buf := Memory.read m d.curAddr, bufFull := true, curAddr := Dmc.nextAddr d.curAddr,
           remaining := d.remaining - 1 }

/-- The end of a sample: restart a looping one, else raise the flag if it is enabled (R219). -/
def Dmc.endSample (r : Latches) (d : Dmc) : Dmc :=
  if d.loop then d.restartSample r else if d.irqEnable then d.raiseIrq else d

/-- `Dmc.Fill()`, the memory reader (R219). -/
def Dmc.fill (r : Latches) (m : List Host.Cell) (d : Dmc) : Dmc × Option Addr :=
  if d.bufFull = false ∧ d.remaining ≠ 0 then
    (if (d.fetchByte m).remaining = 0 then (d.fetchByte m).endSample r else d.fetchByte m, some d.curAddr)
  else (d, none)

/-- `Dmc.StepLevel(b)` (R221). -/
def Dmc.stepLevel (b : Bool) (d : Dmc) : Dmc :=
  if b then if d.level ≤ 125 then { d with level := d.level + 2 } else d
  else if 2 ≤ d.level then { d with level := d.level - 2 } else d

/-- `Dmc.StartOutputCycle()` (R222). -/
def Dmc.startOutputCycle (r : Latches) (m : List Host.Cell) (d : Dmc) : Dmc × Option Addr :=
  if d.bufFull then
    Dmc.fill r m { d with bits := 8, silence := false, shift := d.buf, bufFull := false }
  else ({ d with bits := 8, silence := true }, none)

/-- The first three statements of `DmcOutput.Clock()`: move the level by the bit leaving the shift register
(unless silenced), shift, count the bit (R220). -/
def Dmc.shiftOut (d : Dmc) : Dmc :=
  let d' := if d.silence then d else d.stepLevel (d.shift.getLsbD 0)
  { d' with shift := d'.shift >>> 1, bits := d'.bits - 1 }

/-- `DmcOutput.Clock()`, the output unit (R220). -/
def Dmc.outputClock (r : Latches) (m : List Host.Cell) (d : Dmc) : Dmc × Option Addr :=
  if d.shiftOut.bits = 0 then Dmc.startOutputCycle r m d.shiftOut else (d.shiftOut, none)

/-- `Dmc.RestartSample` (R218). -/
def execDmcRestartSample (s : State) : Host.Outcome State Fault Refusal :=
  .next { s with dmc := s.dmc.restartSample s.reg.dmc }

/-- `Dmc.Fill` (R219). -/
def execDmcFill (s : State) : Host.Outcome State Fault Refusal :=
  .next (s.onDmc Dmc.fill)

/-- `DmcOutput.Clock` (R220). -/
def execDmcOutputClock (s : State) : Host.Outcome State Fault Refusal :=
  .next (s.onDmc Dmc.outputClock)

/-- `Dmc.StepLevel` (R221). -/
def execDmcStepLevel (b : Bool) (s : State) : Host.Outcome State Fault Refusal :=
  .next { s with dmc := s.dmc.stepLevel b }

/-- `Dmc.StartOutputCycle` (R222). -/
def execDmcStartOutputCycle (s : State) : Host.Outcome State Fault Refusal :=
  .next (s.onDmc Dmc.startOutputCycle)

/-- `Dmc.Output` (R223). -/
def execDmcOutput (s : State) : Host.Outcome State Fault Refusal :=
  .next (s.returning (.num s.dmc.level.toNat))

end Sys2Proof.Machine
end

