-- ==== Sys2Proof/Machine/Channels.lean ====
section
/-! DEFINITION. The five channels and the fan-out of the control clocks (spec/45_channels.md).  Each
`ClockTimer` is one qualifying clock; the cadence is tested by `ClockTimers` (R232). -/

namespace Sys2Proof.Machine

/-! ## Pulse (R231 to R235) -/

/-- `Pulse.ClockTimer()` (R231). -/
def Pulse.clockTimer (p : Pulse) (x : PulseId) : Pulse :=
  let t := p.timer.clock (match x with | .p1 => minPeriod .p1 | .p2 => minPeriod .p2)
  if t.2 then ({ p with timer := t.1 } : Pulse).advance else { p with timer := t.1 }

/-- `Pulse.getValue() -> v`: "0 if sweep-silenced or length-silenced; else envelope-volume × waveform-output"
(R233). -/
def Pulse.getValue (p : Pulse) (x : PulseId) : Nat :=
  if p.sweepSilence x ∨ p.len.silences then 0 else p.env.getVolume.toNat * p.waveBit.toNat

/-- `Pulse.ClockQuarterFrame()` (R234). -/
def Pulse.clockQuarterFrame (p : Pulse) : Pulse := { p with env := p.env.clock }

/-- `Pulse.ClockHalfFrame()`: the length counter, then the sweep unit (R235). -/
def Pulse.clockHalfFrame (p : Pulse) (x : PulseId) : Pulse :=
  ({ p with len := p.len.clock } : Pulse).sweepClock x

/-- `Pulse.ClockTimer` (R231). -/
def execPulseClockTimer (x : PulseId) (s : State) : Host.Outcome State Fault Refusal :=
  .next (s.setPulse x ((s.pulse x).clockTimer x))

/-- `Pulse.getValue` (R233). -/
def execPulseGetValue (x : PulseId) (s : State) : Host.Outcome State Fault Refusal :=
  .next (s.returning (.num ((s.pulse x).getValue x)))

/-- `Pulse.ClockQuarterFrame` (R234). -/
def execPulseClockQuarterFrame (x : PulseId) (s : State) : Host.Outcome State Fault Refusal :=
  .next (s.setPulse x (s.pulse x).clockQuarterFrame)

/-- `Pulse.ClockHalfFrame` (R235). -/
def execPulseClockHalfFrame (x : PulseId) (s : State) : Host.Outcome State Fault Refusal :=
  .next (s.setPulse x ((s.pulse x).clockHalfFrame x))

/-! ## Triangle (R236 to R239) -/

/-- `Triangle.ClockTimer()`: the timer is clocked first and unconditionally; the two gates decide only whether
its firing advances the phase (R236). -/
def Triangle.clockTimer (t : Triangle) : Triangle :=
  let c := t.timer.clock (minPeriod .tri)
  if c.2 ∧ t.lin ≠ 0 ∧ t.len.counter ≠ 0 then ({ t with timer := c.1 } : Triangle).advance
  else { t with timer := c.1 }

/-- `Triangle.getValue() -> v` (R238). -/
def Triangle.getValue (t : Triangle) : Nat := triLevel t.phase

/-- `Triangle.ClockQuarterFrame()` (R237). -/
def Triangle.clockQuarterFrame (t : Triangle) : Triangle := t.linearClock

/-- `Triangle.ClockHalfFrame()` (R239). -/
def Triangle.clockHalfFrame (t : Triangle) : Triangle := { t with len := t.len.clock }

/-- `Triangle.ClockTimer` (R236). -/
def execTriangleClockTimer (s : State) : Host.Outcome State Fault Refusal :=
  .next { s with tri := s.tri.clockTimer }

/-- `Triangle.ClockQuarterFrame` (R237). -/
def execTriangleClockQuarterFrame (s : State) : Host.Outcome State Fault Refusal :=
  .next { s with tri := s.tri.clockQuarterFrame }

/-- `Triangle.getValue` (R238). -/
def execTriangleGetValue (s : State) : Host.Outcome State Fault Refusal :=
  .next (s.returning (.num s.tri.getValue))

/-- `Triangle.ClockHalfFrame` (R239). -/
def execTriangleClockHalfFrame (s : State) : Host.Outcome State Fault Refusal :=
  .next { s with tri := s.tri.clockHalfFrame }

/-! ## Noise (R241 to R244) -/

/-- `Noise.ClockTimer()` (R241). -/
def Noise.clockTimer (n : Noise) : Noise :=
  let t := n.timer.clock (minPeriod .noi)
  if t.2 then ({ n with timer := t.1 } : Noise).advance else { n with timer := t.1 }

/-- `Noise.getValue() -> v` (R242). -/
def Noise.getValue (n : Noise) : Nat :=
  if n.len.silences then 0 else n.env.getVolume.toNat * n.waveBit.toNat

/-- `Noise.ClockQuarterFrame()` (R243). -/
def Noise.clockQuarterFrame (n : Noise) : Noise := { n with env := n.env.clock }

/-- `Noise.ClockHalfFrame()` (R244). -/
def Noise.clockHalfFrame (n : Noise) : Noise := { n with len := n.len.clock }

/-- `Noise.ClockTimer` (R241). -/
def execNoiseClockTimer (s : State) : Host.Outcome State Fault Refusal :=
  .next { s with noi := s.noi.clockTimer }

/-- `Noise.getValue` (R242). -/
def execNoiseGetValue (s : State) : Host.Outcome State Fault Refusal :=
  .next (s.returning (.num s.noi.getValue))

/-- `Noise.ClockQuarterFrame` (R243). -/
def execNoiseClockQuarterFrame (s : State) : Host.Outcome State Fault Refusal :=
  .next { s with noi := s.noi.clockQuarterFrame }

/-- `Noise.ClockHalfFrame` (R244). -/
def execNoiseClockHalfFrame (s : State) : Host.Outcome State Fault Refusal :=
  .next { s with noi := s.noi.clockHalfFrame }

/-! ## Sample playback (R245 to R247) -/

/-- `Dmc.getValue() -> v` (R245). -/
def Dmc.getValue (d : Dmc) : Nat := d.level.toNat

/-- `Dmc.ClockTimer()` (R246). -/
def Dmc.clockTimer (r : Latches) (m : List Host.Cell) (d : Dmc) : Dmc × Option Addr :=
  let t := d.timer.clock (minPeriod .dmc)
  if t.2 then Dmc.outputClock r m { d with timer := t.1 } else ({ d with timer := t.1 }, none)

/-- `Dmc.getValue` (R245). -/
def execDmcGetValue (s : State) : Host.Outcome State Fault Refusal :=
  .next (s.returning (.num s.dmc.getValue))

/-- `Dmc.ClockTimer` (R246). -/
def execDmcClockTimer (s : State) : Host.Outcome State Fault Refusal :=
  .next (s.onDmc Dmc.clockTimer)

/-- `Dmc.ClockQuarterFrame`: does nothing (R247). -/
def execDmcClockQuarterFrame (s : State) : Host.Outcome State Fault Refusal := .next s

/-- `Dmc.ClockHalfFrame`: does nothing (R247). -/
def execDmcClockHalfFrame (s : State) : Host.Outcome State Fault Refusal := .next s

/-! ## Fan-out (R248, R249) -/

/-- `ClockQuarterFrameAll()`: p1, p2, tri, noi, which act on disjoint state (R248). -/
def State.clockQuarterFrameAll (s : State) : State :=
  { s with p1 := s.p1.clockQuarterFrame, p2 := s.p2.clockQuarterFrame, tri := s.tri.clockQuarterFrame,
           noi := s.noi.clockQuarterFrame }

/-- `ClockHalfFrameAll()`: p1, p2, tri, noi, which act on disjoint state (R249). -/
def State.clockHalfFrameAll (s : State) : State :=
  { s with p1 := s.p1.clockHalfFrame .p1, p2 := s.p2.clockHalfFrame .p2, tri := s.tri.clockHalfFrame,
           noi := s.noi.clockHalfFrame }

/-- `ClockQuarterFrameAll` (R248). -/
def execClockQuarterFrameAll (s : State) : Host.Outcome State Fault Refusal := .next s.clockQuarterFrameAll

/-- `ClockHalfFrameAll` (R249). -/
def execClockHalfFrameAll (s : State) : Host.Outcome State Fault Refusal := .next s.clockHalfFrameAll

end Sys2Proof.Machine
end

