-- ==== Sys2Proof/Machine/Sequencer.lean ====
section
/-! DEFINITION. The FrameSequencer (spec/47_frame_sequencer.md). -/

namespace Sys2Proof.Machine

/-- `FS.DoPosition(q, h, i)`: the quarter-frame clock, then the half-frame clock, then the interrupt flag
(R302). -/
def State.doPosition (s : State) (q h i : Bool) : State :=
  let s1 := if q then s.clockQuarterFrameAll else s
  let s2 := if h then s1.clockHalfFrameAll else s1
  if i ∧ s2.fs.irqInhibit = false then { s2 with fs := s2.fs.raiseIrq } else s2

/-- The position after `step`: `(step + 1) mod 4` or `mod 5` (R301). -/
def FrameSequencer.nextStep (f : FrameSequencer) : BitVec 3 := BitVec.ofNat 3 ((f.step.toNat + 1) % f.mode.positions)

/-- What `FS.Clock()` does when the prescaler fires: the current position, then the step counter moves on
(R301). -/
def State.runPosition (s : State) : State :=
  let pos := fsPattern s.fs.mode s.fs.step.toNat
  let s' := s.doPosition pos.1 pos.2.1 pos.2.2
  { s' with fs.step := s'.fs.nextStep }

/-- `FS.Clock()` (R301). -/
def State.fsClock (s : State) : State :=
  let s' : State := { s with fs.div := s.fs.div.clock.1 }
  if s.fs.div.clock.2 then s'.runPosition else s'

/-- The fields `FS.WriteMode(m, inh)` writes in the sequencer itself (R304). -/
def FrameSequencer.writeMode (f : FrameSequencer) (m inh : Bool) : FrameSequencer :=
  let f' : FrameSequencer := { f with mode := FsMode.ofBit m, irqInhibit := inh }
  let f'' := if inh then f'.clearIrq else f'
  { f'' with step := 0, div := f''.div.resetCounter }

/-- `FS.WriteMode(m, inh)`: with `m = 1` one quarter-frame and one half-frame clock follow at once (R304). -/
def State.writeMode (s : State) (m inh : Bool) : State :=
  let s' : State := { s with fs := s.fs.writeMode m inh }
  if m then s'.clockQuarterFrameAll.clockHalfFrameAll else s'

/-- `FS.Clock` (R301). -/
def execFsClock (s : State) : Host.Outcome State Fault Refusal := .next s.fsClock

/-- `FS.DoPosition` (R302). -/
def execFsDoPosition (q h i : Bool) (s : State) : Host.Outcome State Fault Refusal := .next (s.doPosition q h i)

/-- `FS.WriteMode` (R304). -/
def execFsWriteMode (m inh : Bool) (s : State) : Host.Outcome State Fault Refusal := .next (s.writeMode m inh)

end Sys2Proof.Machine
end

