-- ==== Sys2Proof/Machine/StreamBuffer.lean ====
section
/-! DEFINITION. The StreamBuffer and the consumer port (spec/49_stream_buffer.md).  Each operation is one atomic
transition of `fifo` (R83). -/

namespace Sys2Proof.Machine

/-- Compaction: remove everything before the read offset, `min(off, len)` elements, and reset it (R341). -/
def Fifo.compact (f : Fifo) : Fifo := { f with seq := f.seq.drop (min f.off f.seq.length), off := 0 }

/-- Write the tail. -/
def Fifo.push (f : Fifo) (x : Sample) : Fifo := { f with seq := f.seq ++ [x] }

/-- `Fifo.append(s) -> ok` (R341). -/
def Fifo.append (f : Fifo) (x : Sample) : Fifo × Bool :=
  if f.seq.length < f.cap then (f.push x, true)
  else if f.off ≠ 0 then (f.compact.push x, true)
  else (f, false)

/-- The run from the read offset to the end: what has not been delivered (R340, R342). -/
def Fifo.unread (f : Fifo) : List Sample := f.seq.drop f.off

/-- `PULL -> samples | "no data"` (R342): the FIFO after it, and the answer. -/
def Fifo.pull (f : Fifo) : Fifo × Result :=
  if f.off ≥ f.seq.length then (f, .noData)
  else ({ f with off := f.seq.length }, .samples f.unread)

/-- `SEEK(t)`: `off <- floor(t * SAMPLE_RATE * CHANNEL_COUNT / 1000)` (R343). -/
def Fifo.seek (f : Fifo) (t : Nat) : Fifo :=
  { f with off := t * Config.sampleRate * Config.channelCount / 1000 }

/-- `Fifo.append` on the state; the sample offered is recorded (R12 (a)). -/
def State.append (s : State) (x : Sample) : State × Bool :=
  ({ s with fifo := (s.fifo.append x).1, obs.emitted := s.obs.emitted ++ [x] }, (s.fifo.append x).2)

/-- `Fifo.append` (R341). -/
def execFifoAppend (x : Sample) (s : State) : Host.Outcome State Fault Refusal :=
  .next ((s.append x).1.returning (.flag (s.append x).2))

/-- `PULL` (R342); the samples returned are recorded (R12 (a)). -/
def execPull (s : State) : Host.Outcome State Fault Refusal :=
  .next { s with fifo := s.fifo.pull.1, obs.result := s.fifo.pull.2,
                 obs.delivered := s.obs.delivered ++ s.fifo.unread }

/-- `SEEK(t)` (R343). -/
def execSeek (t : Nat) (s : State) : Host.Outcome State Fault Refusal := .next { s with fifo := s.fifo.seek t }

end Sys2Proof.Machine
end

