-- ==== Sys2Proof/Machine/MixerResampler.lean ====
section
/-! DEFINITION. The `STEP` event, the mixer and the resampler (spec/48_mixer_resampler.md). -/

namespace Sys2Proof.Machine

/-- The half-rate timers: pulse 1, pulse 2, noise, sample playback (R323). -/
def State.clockHalfRateTimers (s : State) : State :=
  ({ s with p1 := s.p1.clockTimer .p1, p2 := s.p2.clockTimer .p2, noi := s.noi.clockTimer } : State).onDmc
    Dmc.clockTimer

/-- `ClockTimers()`: the triangle's timer every cycle, the others when `phase2 = 0`, then the parity toggles
(R323). -/
def State.clockTimers (s : State) : State :=
  let s1 : State := { s with tri := s.tri.clockTimer }
  let s2 := if s1.phase2 then s1 else s1.clockHalfRateTimers
  { s2 with phase2 := !s2.phase2 }

/-- `pulse_in`, the index of `PULSE_TABLE` (R324). -/
def State.pulseIn (s : State) : Nat := s.p1.getValue .p1 + s.p2.getValue .p2

/-- `tnd_in`, the index of `TND_TABLE` (R324). -/
def State.tndIn (s : State) : Nat := 3 * s.tri.getValue + 2 * s.noi.getValue + s.dmc.getValue

/-- `Mix() -> m` (R324). -/
def State.mixValue (s : State) : Rat := pulseTable s.pulseIn + tndTable s.tndIn

/-- Sub-step 4: the mix value into the running sum, one more cycle counted (R328). -/
def Mixer.accumulate (x : Mixer) (m : Rat) : Mixer := { x with sum := x.sum + m, count := x.count + 1 }

/-- `Scale(avg) -> s`: `floor(avg * 65535) - 32768` (R331). -/
def scaleSample (avg : Rat) : Sample := (avg * 65535).floor - 32768

/-- `avg = mix.sum / mix.count` (R330); over no cycles, which never happens at an emission (R15), a free value
(notes/assumptions/8.md). -/
def Mixer.average (x : Mixer) : Rat := if x.count = 0 then Config.averageOfNoCycles x.sum else x.sum / x.count

/-- The emission of `Resample()`: append the scaled average, count a drop if the append fails, clear the running
sum and count, take `CPU_HZ` off the accumulator (R330). -/
def State.emit (s : State) : State :=
  let r := s.append (scaleSample s.mix.average)
  let s' := if r.2 then r.1 else { r.1 with fifo.drops := r.1.fifo.drops + 1 }
  { s' with mix := { sum := 0, count := 0, acc := s'.mix.acc - Config.cpuHz } }

/-- `Resample()` (R330). -/
def State.resample (s : State) : State :=
  let s' : State := { s with mix.acc := s.mix.acc + Config.sampleRate }
  if s'.mix.acc ≥ Config.cpuHz then s'.emit else s'

/-- Sub-steps 1 to 4 of a `STEP`: everything before the resampler (R321). -/
def State.cycle (s : State) : State :=
  let s' := s.fsClock.clockTimers
  { s' with mix := s'.mix.accumulate s'.mixValue }

/-- `ClockTimers` (R323). -/
def execClockTimers (s : State) : Host.Outcome State Fault Refusal := .next s.clockTimers

/-- `Mix` (R324). -/
def execMix (s : State) : Host.Outcome State Fault Refusal := .next (s.returning (.rational s.mixValue))

/-- `Resample` (R330). -/
def execResample (s : State) : Host.Outcome State Fault Refusal := .next s.resample

/-- `Scale` (R331). -/
def execScale (avg : Rat) (s : State) : Host.Outcome State Fault Refusal :=
  .next (s.returning (.sample (scaleSample avg)))

/-- `STEP`: the five sub-steps in order (R320, R321). -/
def execStep (s : State) : Host.Outcome State Fault Refusal := .next s.cycle.resample

end Sys2Proof.Machine
end

