-- ==== Sys2Proof/Machine/RegisterWrites.lean ====
section
/-! DEFINITION. The `WRITE` event, register by register (spec/46_register_writes.md).  Each meaning stores the raw
latch where the id has one (R260) and then performs the rule of the id, as one atomic transition. -/

namespace Sys2Proof.Machine

/-! ## The shapes several registers share -/

/-- The halt bit, which is also the envelope's loop flag, the constant-volume flag and the volume (register 0 of
p1, p2 and noi: R262, R267, R277). -/
def Envelope.writeControl (e : Envelope) (b : Byte) : Envelope :=
  ((e.setLoop (Field.halt b)).setConstantVolumeMode (Field.constantMode b)).setConstantVolume (Field.volume b)

/-- Register 0 of a pulse channel (R262, R267). -/
def Pulse.writeR0 (p : Pulse) (b : Byte) : Pulse :=
  { p with duty := Field.duty b, len := p.len.setHalt (Field.halt b), env := p.env.writeControl b }

/-- Register 1 of a pulse channel (R264, R268). -/
def Pulse.writeR1 (p : Pulse) (b : Byte) : Pulse :=
  { p with sweep := ((((p.sweep.setEnabled (Field.sweepEnabled b)).setPeriod (Field.sweepPeriod b)).setNegate
      (Field.sweepNegate b)).setShiftCount (Field.sweepShift b)).armReload }

/-- Register 2 of a pulse channel (R265, R269). -/
def Pulse.writeR2 (p : Pulse) (b : Byte) : Pulse := { p with timer := p.timer.setPeriodLow8 b }

/-- Register 3 of a pulse channel (R266, R270). -/
def Pulse.writeR3 (p : Pulse) (b : Byte) : Pulse :=
  ({ p with timer := p.timer.setPeriodHigh3 (Field.timerHigh b), len := p.len.load (Field.lengthIndex b),
            env := p.env.armRestart } : Pulse).restartPhase

/-! ## Pulse 1 (R262 to R266) -/

/-- `W P1_R0` (R262). -/
def execWP1R0 (b : Byte) (s : State) : Host.Outcome State Fault Refusal :=
  .next { s with reg.p1.r0 := b, p1 := s.p1.writeR0 b }

/-- `W P1_R1` (R264). -/
def execWP1R1 (b : Byte) (s : State) : Host.Outcome State Fault Refusal :=
  .next { s with reg.p1.r1 := b, p1 := s.p1.writeR1 b }

/-- `W P1_R2` (R265). -/
def execWP1R2 (b : Byte) (s : State) : Host.Outcome State Fault Refusal :=
  .next { s with reg.p1.r2 := b, p1 := s.p1.writeR2 b }

/-- `W P1_R3` (R266). -/
def execWP1R3 (b : Byte) (s : State) : Host.Outcome State Fault Refusal :=
  .next { s with reg.p1.r3 := b, p1 := s.p1.writeR3 b }

/-! ## Pulse 2 (R267 to R270) -/

/-- `W P2_R0` (R267). -/
def execWP2R0 (b : Byte) (s : State) : Host.Outcome State Fault Refusal :=
  .next { s with reg.p2.r0 := b, p2 := s.p2.writeR0 b }

/-- `W P2_R1` (R268). -/
def execWP2R1 (b : Byte) (s : State) : Host.Outcome State Fault Refusal :=
  .next { s with reg.p2.r1 := b, p2 := s.p2.writeR1 b }

/-- `W P2_R2` (R269). -/
def execWP2R2 (b : Byte) (s : State) : Host.Outcome State Fault Refusal :=
  .next { s with reg.p2.r2 := b, p2 := s.p2.writeR2 b }

/-- `W P2_R3` (R270). -/
def execWP2R3 (b : Byte) (s : State) : Host.Outcome State Fault Refusal :=
  .next { s with reg.p2.r3 := b, p2 := s.p2.writeR3 b }

/-! ## Triangle (R271 to R276) -/

/-- `W TRI_R0` (R271). -/
def execWTriR0 (b : Byte) (s : State) : Host.Outcome State Fault Refusal :=
  .next { s with reg.tri.r0 := b, tri.control := Field.triControl b,
                 tri.len := s.tri.len.setHalt (Field.triControl b), tri.reloadValue := Field.triReload b }

/-- `W TRI_R1`: latched only (R272). -/
def execWTriR1 (b : Byte) (s : State) : Host.Outcome State Fault Refusal :=
  .next { s with reg.tri.r1 := b }

/-- `W TRI_R2` (R273). -/
def execWTriR2 (b : Byte) (s : State) : Host.Outcome State Fault Refusal :=
  .next { s with reg.tri.r2 := b, tri.timer := s.tri.timer.setPeriodLow8 b }

/-- `W TRI_R3`: the phase is not restarted (R276). -/
def execWTriR3 (b : Byte) (s : State) : Host.Outcome State Fault Refusal :=
  .next { s with reg.tri.r3 := b,
                 tri := ({ s.tri with timer := s.tri.timer.setPeriodHigh3 (Field.timerHigh b),
                                      len := s.tri.len.load (Field.lengthIndex b) } : Triangle).armReload }

/-! ## Noise (R277 to R281) -/

/-- `W NOI_R0` (R277). -/
def execWNoiR0 (b : Byte) (s : State) : Host.Outcome State Fault Refusal :=
  .next { s with reg.noi.r0 := b, noi.len := s.noi.len.setHalt (Field.halt b), noi.env := s.noi.env.writeControl b }

/-- `W NOI_R1`: latched only (R278). -/
def execWNoiR1 (b : Byte) (s : State) : Host.Outcome State Fault Refusal :=
  .next { s with reg.noi.r1 := b }

/-- `W NOI_R2` (R280). -/
def execWNoiR2 (b : Byte) (s : State) : Host.Outcome State Fault Refusal :=
  .next { s with reg.noi.r2 := b, noi.mode := Field.noiseMode b, noi.periodIndex := Field.noiseIndex b,
                 noi.timer := s.noi.timer.setPeriod (noiseDividerPeriod (Field.noiseIndex b)) }

/-- `W NOI_R3` (R281). -/
def execWNoiR3 (b : Byte) (s : State) : Host.Outcome State Fault Refusal :=
  .next { s with reg.noi.r3 := b, noi.len := s.noi.len.load (Field.lengthIndex b),
                 noi.env := s.noi.env.armRestart }

/-! ## Sample playback (R283 to R286) -/

/-- The fields of DMC_R0: the flag is cleared when the enable bit is 0 (R283). -/
def Dmc.writeR0 (d : Dmc) (b : Byte) : Dmc :=
  let d' : Dmc := { d with irqEnable := Field.dmcIrqEnable b }
  let d'' := if Field.dmcIrqEnable b then d' else d'.clearIrq
  { d'' with loop := Field.dmcLoop b, rateIndex := Field.dmcRate b,
             timer := d''.timer.setPeriod (dmcDividerPeriod (Field.dmcRate b)) }

/-- `W DMC_R0` (R283). -/
def execWDmcR0 (b : Byte) (s : State) : Host.Outcome State Fault Refusal :=
  .next { s with reg.dmc.r0 := b, dmc := s.dmc.writeR0 b }

/-- `W DMC_R1` (R284). -/
def execWDmcR1 (b : Byte) (s : State) : Host.Outcome State Fault Refusal :=
  .next { s with reg.dmc.r1 := b, dmc.level := Field.dmcLevel b }

/-- `W DMC_R2`: latched; the derived `sample_address` follows (R285). -/
def execWDmcR2 (b : Byte) (s : State) : Host.Outcome State Fault Refusal :=
  .next { s with reg.dmc.r2 := b }

/-- `W DMC_R3`: latched; the derived `sample_length` follows (R286). -/
def execWDmcR3 (b : Byte) (s : State) : Host.Outcome State Fault Refusal :=
  .next { s with reg.dmc.r3 := b }

/-! ## Control registers and reserved ids (R287 to R293), which have no latch -/

/-- The sample-playback part of an ENABLE write, after `dmc.irq_flag <- 0` (R290). -/
def Dmc.writeEnable (on : Bool) (r : Latches) (m : List Host.Cell) (d : Dmc) : Dmc × Option Addr :=
  if on then Dmc.fill r m (if d.clearIrq.remaining = 0 then d.clearIrq.restartSample r else d.clearIrq)
  else ({ d.clearIrq with remaining := 0 }, none)

/-- The four length-counter enables of an ENABLE write (R290). -/
def State.writeLengthEnables (s : State) (b : Byte) : State :=
  { s with p1.len := s.p1.len.setEnabled (Field.enableP1 b), p2.len := s.p2.len.setEnabled (Field.enableP2 b),
           tri.len := s.tri.len.setEnabled (Field.enableTri b), noi.len := s.noi.len.setEnabled (Field.enableNoi b) }

/-- `W $14`, a reserved id: no state change (R287). -/
def execWId14 (_b : Byte) (s : State) : Host.Outcome State Fault Refusal := .next s

/-- `W ENABLE` (R290). -/
def execWEnable (b : Byte) (s : State) : Host.Outcome State Fault Refusal :=
  .next ((s.writeLengthEnables b).onDmc (Dmc.writeEnable (Field.enableDmc b)))

/-- `W $16`, a reserved id: no state change (R291). -/
def execWId16 (_b : Byte) (s : State) : Host.Outcome State Fault Refusal := .next s

/-- `W FRAME`: `fs.WriteMode(b[7], b[6])` (R292, R304). -/
def execWFrame (b : Byte) (s : State) : Host.Outcome State Fault Refusal :=
  .next (s.writeMode (Field.frameMode b) (Field.frameInhibit b))

/-- `W $18` to `W $1F`, reserved ids: no state change (R293). -/
def execWId18To1F (_low : BitVec 3) (_b : Byte) (s : State) : Host.Outcome State Fault Refusal := .next s

end Sys2Proof.Machine
end

