-- ==== Sys2Proof/Machine/ResetEvent.lean ====
section
/-! DEFINITION. The `RESET` event (spec/70_reset_and_hazards.md). -/

namespace Sys2Proof.Machine

/-- `RESET`: every state field but `fifo.*` takes its reset value (R380, R382).  The sample memory is a parameter
that no reset touches (R383); the events still to come and the record of what was observed are no state of the
block. -/
def execReset (s : State) : Host.Outcome State Fault Refusal :=
  .next { State.reset with fifo := s.fifo, mem := s.mem, pending := s.pending, obs := s.obs }

end Sys2Proof.Machine
end

