-- ==== Sys2Proof/Machine/Dispatch.lean ====
section
/-! DEFINITION. The dispatch: one arm for each constructor of `Instr`, each a call of its meaning. -/

namespace Sys2Proof.Machine

def exec (i : Instr) (s : State) : Host.Outcome State Fault Refusal :=
  match i with
  | .wP1R0 b => Sys2Proof.Machine.execWP1R0 b s
  | .wP1R1 b => Sys2Proof.Machine.execWP1R1 b s
  | .wP1R2 b => Sys2Proof.Machine.execWP1R2 b s
  | .wP1R3 b => Sys2Proof.Machine.execWP1R3 b s
  | .wP2R0 b => Sys2Proof.Machine.execWP2R0 b s
  | .wP2R1 b => Sys2Proof.Machine.execWP2R1 b s
  | .wP2R2 b => Sys2Proof.Machine.execWP2R2 b s
  | .wP2R3 b => Sys2Proof.Machine.execWP2R3 b s
  | .wTriR0 b => Sys2Proof.Machine.execWTriR0 b s
  | .wTriR1 b => Sys2Proof.Machine.execWTriR1 b s
  | .wTriR2 b => Sys2Proof.Machine.execWTriR2 b s
  | .wTriR3 b => Sys2Proof.Machine.execWTriR3 b s
  | .wNoiR0 b => Sys2Proof.Machine.execWNoiR0 b s
  | .wNoiR1 b => Sys2Proof.Machine.execWNoiR1 b s
  | .wNoiR2 b => Sys2Proof.Machine.execWNoiR2 b s
  | .wNoiR3 b => Sys2Proof.Machine.execWNoiR3 b s
  | .wDmcR0 b => Sys2Proof.Machine.execWDmcR0 b s
  | .wDmcR1 b => Sys2Proof.Machine.execWDmcR1 b s
  | .wDmcR2 b => Sys2Proof.Machine.execWDmcR2 b s
  | .wDmcR3 b => Sys2Proof.Machine.execWDmcR3 b s
  | .wId14 b => Sys2Proof.Machine.execWId14 b s
  | .wEnable b => Sys2Proof.Machine.execWEnable b s
  | .wId16 b => Sys2Proof.Machine.execWId16 b s
  | .wFrame b => Sys2Proof.Machine.execWFrame b s
  | .wId18To1F low b => Sys2Proof.Machine.execWId18To1F low b s
  | .step => Sys2Proof.Machine.execStep s
  | .reset => Sys2Proof.Machine.execReset s
  | .pull => Sys2Proof.Machine.execPull s
  | .seek t => Sys2Proof.Machine.execSeek t s
  | .dividerSetPeriod d p => Sys2Proof.Machine.execDividerSetPeriod d p s
  | .dividerResetCounter d => Sys2Proof.Machine.execDividerResetCounter d s
  | .dividerClock d => Sys2Proof.Machine.execDividerClock d s
  | .timerSetPeriodLow8 t v => Sys2Proof.Machine.execTimerSetPeriodLow8 t v s
  | .timerSetPeriodHigh3 t v => Sys2Proof.Machine.execTimerSetPeriodHigh3 t v s
  | .timerSetPeriod t p => Sys2Proof.Machine.execTimerSetPeriod t p s
  | .timerGetPeriod t => Sys2Proof.Machine.execTimerGetPeriod t s
  | .timerClock t => Sys2Proof.Machine.execTimerClock t s
  | .lengthSetEnabled l e => Sys2Proof.Machine.execLengthSetEnabled l e s
  | .lengthSetHalt l h => Sys2Proof.Machine.execLengthSetHalt l h s
  | .lengthLoad l idx => Sys2Proof.Machine.execLengthLoad l idx s
  | .lengthClock l => Sys2Proof.Machine.execLengthClock l s
  | .lengthSilenceChannel l => Sys2Proof.Machine.execLengthSilenceChannel l s
  | .lengthGetValue l => Sys2Proof.Machine.execLengthGetValue l s
  | .envelopeSetConstantVolume e v => Sys2Proof.Machine.execEnvelopeSetConstantVolume e v s
  | .envelopeRestart e => Sys2Proof.Machine.execEnvelopeRestart e s
  | .envelopeClock e => Sys2Proof.Machine.execEnvelopeClock e s
  | .envelopeGetVolume e => Sys2Proof.Machine.execEnvelopeGetVolume e s
  | .envelopeSetLoop e b => Sys2Proof.Machine.execEnvelopeSetLoop e b s
  | .envelopeSetConstantVolumeMode e b => Sys2Proof.Machine.execEnvelopeSetConstantVolumeMode e b s
  | .sweepTarget x => Sys2Proof.Machine.execSweepTarget x s
  | .sweepRetune x => Sys2Proof.Machine.execSweepRetune x s
  | .sweepSilence x => Sys2Proof.Machine.execSweepSilence x s
  | .sweepClock x => Sys2Proof.Machine.execSweepClock x s
  | .sweepSetEnabled x b => Sys2Proof.Machine.execSweepSetEnabled x b s
  | .sweepSetNegate x b => Sys2Proof.Machine.execSweepSetNegate x b s
  | .sweepSetPeriod x p => Sys2Proof.Machine.execSweepSetPeriod x p s
  | .sweepSetShiftCount x n => Sys2Proof.Machine.execSweepSetShiftCount x n s
  | .sweepRestart x => Sys2Proof.Machine.execSweepRestart x s
  | .pulseWaveAdvance x => Sys2Proof.Machine.execPulseWaveAdvance x s
  | .pulseWaveRestart x => Sys2Proof.Machine.execPulseWaveRestart x s
  | .pulseWaveOutput x => Sys2Proof.Machine.execPulseWaveOutput x s
  | .triWaveAdvance => Sys2Proof.Machine.execTriWaveAdvance s
  | .triWaveOutput => Sys2Proof.Machine.execTriWaveOutput s
  | .linearCounterClock => Sys2Proof.Machine.execLinearCounterClock s
  | .linearCounterSetReloadFlag => Sys2Proof.Machine.execLinearCounterSetReloadFlag s
  | .noiseWaveAdvance => Sys2Proof.Machine.execNoiseWaveAdvance s
  | .noiseWaveOutput => Sys2Proof.Machine.execNoiseWaveOutput s
  | .dmcRestartSample => Sys2Proof.Machine.execDmcRestartSample s
  | .dmcFill => Sys2Proof.Machine.execDmcFill s
  | .dmcOutputClock => Sys2Proof.Machine.execDmcOutputClock s
  | .dmcStepLevel b => Sys2Proof.Machine.execDmcStepLevel b s
  | .dmcStartOutputCycle => Sys2Proof.Machine.execDmcStartOutputCycle s
  | .dmcOutput => Sys2Proof.Machine.execDmcOutput s
  | .pulseClockTimer x => Sys2Proof.Machine.execPulseClockTimer x s
  | .pulseGetValue x => Sys2Proof.Machine.execPulseGetValue x s
  | .pulseClockQuarterFrame x => Sys2Proof.Machine.execPulseClockQuarterFrame x s
  | .pulseClockHalfFrame x => Sys2Proof.Machine.execPulseClockHalfFrame x s
  | .triangleClockTimer => Sys2Proof.Machine.execTriangleClockTimer s
  | .triangleClockQuarterFrame => Sys2Proof.Machine.execTriangleClockQuarterFrame s
  | .triangleGetValue => Sys2Proof.Machine.execTriangleGetValue s
  | .triangleClockHalfFrame => Sys2Proof.Machine.execTriangleClockHalfFrame s
  | .noiseClockTimer => Sys2Proof.Machine.execNoiseClockTimer s
  | .noiseGetValue => Sys2Proof.Machine.execNoiseGetValue s
  | .noiseClockQuarterFrame => Sys2Proof.Machine.execNoiseClockQuarterFrame s
  | .noiseClockHalfFrame => Sys2Proof.Machine.execNoiseClockHalfFrame s
  | .dmcGetValue => Sys2Proof.Machine.execDmcGetValue s
  | .dmcClockTimer => Sys2Proof.Machine.execDmcClockTimer s
  | .dmcClockQuarterFrame => Sys2Proof.Machine.execDmcClockQuarterFrame s
  | .dmcClockHalfFrame => Sys2Proof.Machine.execDmcClockHalfFrame s
  | .clockQuarterFrameAll => Sys2Proof.Machine.execClockQuarterFrameAll s
  | .clockHalfFrameAll => Sys2Proof.Machine.execClockHalfFrameAll s
  | .fsClock => Sys2Proof.Machine.execFsClock s
  | .fsDoPosition q h irq => Sys2Proof.Machine.execFsDoPosition q h irq s
  | .fsWriteMode m inh => Sys2Proof.Machine.execFsWriteMode m inh s
  | .clockTimers => Sys2Proof.Machine.execClockTimers s
  | .mix => Sys2Proof.Machine.execMix s
  | .resample => Sys2Proof.Machine.execResample s
  | .scale avg => Sys2Proof.Machine.execScale avg s
  | .fifoAppend x => Sys2Proof.Machine.execFifoAppend x s

end Sys2Proof.Machine
end

