-- ==== Sys2Proof/Machine/Step.lean ====
section
/-! DEFINITION. One step of the machine: the next external event, if one has been issued, is taken and its
operation runs (R10, R80).  With no event issued nothing happens: "Time in this spec is the count of `STEP`
events; nothing else takes time" (R11). -/

namespace Sys2Proof.Machine

/-- One step (notes/assumptions/1.md). -/
def step (s : State) : Host.Outcome State Fault Refusal :=
  match s.fetch with
  | none => .next s
  | some (i, s') => exec i s'

/-- `s` with the word issued as the very next event (notes/assumptions/1.md). -/
def State.withFetchWord (s : State) (nbits w : Nat) : State := s.issueWord nbits w

end Sys2Proof.Machine
end

