-- ==== Sys2Proof/Safety.lean ====
section
/-! DEFINITION. What claims are stated in: the invariants of spec/10_state.md R41 (with the ones R219, R261, R262,
R300, R331 and R70 add), the part of the state the producer owns (R20, R396), and running a list of events. -/

namespace Sys2Proof.Machine

/-! ## The invariants -/

/-- R41 (b), (c) for one length counter. -/
def LengthCounter.Sound (l : LengthCounter) : Prop :=
  l.counter.toNat ≤ 254 ∧ (l.enabled = false → l.counter = 0)

/-- R41 (m) for one envelope. -/
def Envelope.Sound (e : Envelope) : Prop := e.div.period = e.constantLevel

/-- The four length counters, the three envelopes, and the shared bits of R262, R267, R271, R277. -/
structure ChannelsSound (s : State) : Prop where
  p1Len : s.p1.len.Sound
  p2Len : s.p2.len.Sound
  triLen : s.tri.len.Sound
  noiLen : s.noi.len.Sound
  p1Env : s.p1.env.Sound
  p2Env : s.p2.env.Sound
  noiEnv : s.noi.env.Sound
  p1Halt : s.p1.len.halt = s.p1.env.loop
  p2Halt : s.p2.len.halt = s.p2.env.loop
  triHalt : s.tri.len.halt = s.tri.control
  noiHalt : s.noi.len.halt = s.noi.env.loop
  /-- R41 (k), R34. -/
  lfsr : s.noi.lfsr ≠ 0

/-- The sample-playback channel: R41 (l), the byte count's range (R35), "buffer empty implies `remaining = 0`"
(R219), and the window of addresses (R70). -/
structure DmcSound (s : State) : Prop where
  bitsLow : 1 ≤ s.dmc.bits.toNat
  bitsHigh : s.dmc.bits.toNat ≤ 8
  remaining : s.dmc.remaining.toNat ≤ 4081
  buffer : s.dmc.bufFull = false → s.dmc.remaining = 0
  window : s.dmc.remaining ≠ 0 → 0x8000 ≤ s.dmc.curAddr.toNat
  reads : ∀ a ∈ s.obs.reads, 0x8000 ≤ a.toNat

/-- The sequencer: R41 (h), and a prescaler of constant period (R300). -/
structure SequencerSound (s : State) : Prop where
  step : s.fs.step.toNat < s.fs.mode.positions
  period : s.fs.div.period = Config.fsStepPeriod
  counter : s.fs.div.counter.toNat ≤ s.fs.div.period.toNat

/-- The largest mix value, `PULSE_TABLE[30] + TND_TABLE[202]` (R327). -/
def maxMix : Rat := mkRat 3096930587 3096991950

/-- The mixer: R41 (j), and a running sum of `count` mix values since the last emission (R327, R328). -/
structure MixerSound (s : State) : Prop where
  acc : s.mix.acc < Config.cpuHz
  cycles : s.mix.count * Config.sampleRate ≤ s.mix.acc
  sumLow : 0 ≤ s.mix.sum
  sumHigh : s.mix.sum ≤ s.mix.count * maxMix

/-- The FIFO: R41 (i), a positive capacity (R6), and signed 16-bit samples (R331, R72). -/
structure FifoSound (s : State) : Prop where
  cap : 1 ≤ s.fifo.cap
  length : s.fifo.seq.length ≤ s.fifo.cap
  samples : ∀ x ∈ s.fifo.seq, sampleInRange x = true
  emitted : ∀ x ∈ s.obs.emitted, sampleInRange x = true

/-- The invariant of every state a run reaches (R41), with the sample memory in canonical form. -/
structure Sound (s : State) : Prop where
  channels : ChannelsSound s
  dmc : DmcSound s
  sequencer : SequencerSound s
  mixer : MixerSound s
  fifo : FifoSound s
  memory : Memory.wf s.mem = true

/-- R261: each decoded field equals the corresponding bits of the last byte written to its register, but for the
fields R261 excepts. -/
structure FieldsFollowLatches (s : State) : Prop where
  p1Duty : s.p1.duty = Field.duty s.reg.p1.r0
  p1Halt : s.p1.len.halt = Field.halt s.reg.p1.r0
  p1Loop : s.p1.env.loop = Field.halt s.reg.p1.r0
  p1Mode : s.p1.env.constantMode = Field.constantMode s.reg.p1.r0
  p1Level : s.p1.env.constantLevel = Field.volume s.reg.p1.r0
  p1Rate : s.p1.env.div.period = Field.volume s.reg.p1.r0
  p1Enabled : s.p1.sweep.enabled = Field.sweepEnabled s.reg.p1.r1
  p1Sweep : s.p1.sweep.div.period = Field.sweepPeriod s.reg.p1.r1
  p1Negate : s.p1.sweep.negate = Field.sweepNegate s.reg.p1.r1
  p1Shift : s.p1.sweep.shift = Field.sweepShift s.reg.p1.r1
  p2Duty : s.p2.duty = Field.duty s.reg.p2.r0
  p2Halt : s.p2.len.halt = Field.halt s.reg.p2.r0
  p2Loop : s.p2.env.loop = Field.halt s.reg.p2.r0
  p2Mode : s.p2.env.constantMode = Field.constantMode s.reg.p2.r0
  p2Level : s.p2.env.constantLevel = Field.volume s.reg.p2.r0
  p2Rate : s.p2.env.div.period = Field.volume s.reg.p2.r0
  p2Enabled : s.p2.sweep.enabled = Field.sweepEnabled s.reg.p2.r1
  p2Sweep : s.p2.sweep.div.period = Field.sweepPeriod s.reg.p2.r1
  p2Negate : s.p2.sweep.negate = Field.sweepNegate s.reg.p2.r1
  p2Shift : s.p2.sweep.shift = Field.sweepShift s.reg.p2.r1
  triControl : s.tri.control = Field.triControl s.reg.tri.r0
  triHalt : s.tri.len.halt = Field.triControl s.reg.tri.r0
  triReload : s.tri.reloadValue = Field.triReload s.reg.tri.r0
  triPeriod : s.tri.timer.div.period = Field.timerHigh s.reg.tri.r3 ++ s.reg.tri.r2
  noiHalt : s.noi.len.halt = Field.halt s.reg.noi.r0
  noiLoop : s.noi.env.loop = Field.halt s.reg.noi.r0
  noiMode : s.noi.env.constantMode = Field.constantMode s.reg.noi.r0
  noiLevel : s.noi.env.constantLevel = Field.volume s.reg.noi.r0
  noiRate : s.noi.env.div.period = Field.volume s.reg.noi.r0
  noiShiftMode : s.noi.mode = Field.noiseMode s.reg.noi.r2
  noiIndex : s.noi.periodIndex = Field.noiseIndex s.reg.noi.r2
  noiPeriod : s.noi.timer.div.period = noiseDividerPeriod (Field.noiseIndex s.reg.noi.r2)
  dmcIrqEnable : s.dmc.irqEnable = Field.dmcIrqEnable s.reg.dmc.r0
  dmcLoop : s.dmc.loop = Field.dmcLoop s.reg.dmc.r0
  dmcRate : s.dmc.rateIndex = Field.dmcRate s.reg.dmc.r0
  dmcPeriod : s.dmc.timer.div.period = dmcDividerPeriod (Field.dmcRate s.reg.dmc.r0)

/-! ## The two agents (R10, R367, R396) -/

/-- What the producer context owns, with the sample memory it reads and what it has presented to `MemRead` and to
`Fifo.append`. -/
structure ProducerView where
  reg : RegFile
  p1 : Pulse
  p2 : Pulse
  tri : Triangle
  noi : Noise
  dmc : Dmc
  fs : FrameSequencer
  mix : Mixer
  phase2 : Bool
  mem : List Host.Cell
  reads : List Addr
  emitted : List Sample
  deriving DecidableEq, Repr

/-- The producer's part of a state: everything but `fifo`, the events to come and what `PULL` answered. -/
def State.producerView (s : State) : ProducerView :=
  { reg := s.reg, p1 := s.p1, p2 := s.p2, tri := s.tri, noi := s.noi, dmc := s.dmc, fs := s.fs, mix := s.mix,
    phase2 := s.phase2, mem := s.mem, reads := s.obs.reads, emitted := s.obs.emitted }

/-! ## Runs -/

/-- `s` with exactly the events `es` issued. -/
def State.withEvents (s : State) (es : List Event) : State := { s with pending := es }

/-- From `s`, the events `es` are taken one a step and leave `t`, with none to come. -/
def RunsTo (s : State) (es : List Event) (t : State) : Prop :=
  Sys2Proof.core.run es.length (s.withEvents es) = .next t

/-- A safe run: no step of it stops.  R355 says every run is safe. -/
def SafeRun (s : State) : Prop := ∀ n, ∃ t, Sys2Proof.core.run n s = .next t

end Sys2Proof.Machine
end

