-- ==== Sys2Proof/Certificates/Slice0/Obligations.lean ====
section
/-! DEFINITION. The statements for the provers, in the order of OBLIGATIONS.json: encoding, the machine's step, each
operation's result and frame family by family, then the laws and invariants of the whole machine.  A result is
stated as the whole next state, so a field that is not named is unchanged. -/

open Sys2Proof Sys2Proof.Machine

/-! ## Encoding (spec/30_encoding.md) -/

/-- Decoding the event an operation is encoded as gives the operation back, for every operation that has one and
every value of its operands (R100, R101, R127). -/
def Obligations.DecodeInvertsEncode : Prop :=
  ∀ (i : Instr) (e : Event), encode i = some e → decodeEvent e = i

/-- Encoding the operation an event stands for gives the event back: every event, every one of the 8192 words, has
one meaning, and it is an external operation with well-formed operands (R100, R101, R127). -/
def Obligations.EncodeInvertsDecode : Prop :=
  ∀ e : Event, encode (decodeEvent e) = some e ∧ (decodeEvent e).isExternal = true ∧
    (decodeEvent e).wellFormed = true

/-- R101 with the id map of R75 and R293: bits 12:8 are the id and bits 7:0 the byte, and the id alone tells the
register, whatever the byte.  Every word lies in exactly one of the 25 `W` rows of the operation table (R127). -/
def Obligations.RegisterIdsDecode : Prop :=
  (∀ (b : Byte) (low : BitVec 3),
    (∀ id : RegId, (packWord id b).toNat = 256 * id.toNat + b.toNat) ∧
    decodeWord (packWord 0x00 b) = .wP1R0 b ∧ decodeWord (packWord 0x01 b) = .wP1R1 b ∧
    decodeWord (packWord 0x02 b) = .wP1R2 b ∧ decodeWord (packWord 0x03 b) = .wP1R3 b ∧
    decodeWord (packWord 0x04 b) = .wP2R0 b ∧ decodeWord (packWord 0x05 b) = .wP2R1 b ∧
    decodeWord (packWord 0x06 b) = .wP2R2 b ∧ decodeWord (packWord 0x07 b) = .wP2R3 b ∧
    decodeWord (packWord 0x08 b) = .wTriR0 b ∧ decodeWord (packWord 0x09 b) = .wTriR1 b ∧
    decodeWord (packWord 0x0A b) = .wTriR2 b ∧ decodeWord (packWord 0x0B b) = .wTriR3 b ∧
    decodeWord (packWord 0x0C b) = .wNoiR0 b ∧ decodeWord (packWord 0x0D b) = .wNoiR1 b ∧
    decodeWord (packWord 0x0E b) = .wNoiR2 b ∧ decodeWord (packWord 0x0F b) = .wNoiR3 b ∧
    decodeWord (packWord 0x10 b) = .wDmcR0 b ∧ decodeWord (packWord 0x11 b) = .wDmcR1 b ∧
    decodeWord (packWord 0x12 b) = .wDmcR2 b ∧ decodeWord (packWord 0x13 b) = .wDmcR3 b ∧
    decodeWord (packWord 0x14 b) = .wId14 b ∧ decodeWord (packWord 0x15 b) = .wEnable b ∧
    decodeWord (packWord 0x16 b) = .wId16 b ∧ decodeWord (packWord 0x17 b) = .wFrame b ∧
    decodeWord (packWord (0x18 + low.setWidth 5) b) = .wId18To1F low b) ∧
  ∀ w : WriteWord, ∃ r ∈ writeRows, r.covers w = true ∧ ∀ r' ∈ writeRows, r'.covers w = true → r' = r

/-- Words written out from the spec's examples (spec/46_register_writes.md, R125, R262 to R293) decode to the writes
they stand for, and a number of more than 13 bits is rejected by name. -/
def Obligations.WrittenWordsDecode : Prop :=
  decodeNat 0x005A = .ok (.wP1R0 0x5A) ∧ decodeNat 0x0581 = .ok (.wP2R1 0x81) ∧
  decodeNat 0x0B08 = .ok (.wTriR3 0x08) ∧ decodeNat 0x0E8F = .ok (.wNoiR2 0x8F) ∧
  decodeNat 0x1304 = .ok (.wDmcR3 0x04) ∧ decodeNat 0x1402 = .ok (.wId14 0x02) ∧
  decodeNat 0x151F = .ok (.wEnable 0x1F) ∧ decodeNat 0x17C0 = .ok (.wFrame 0xC0) ∧
  decodeNat 0x1FFF = .ok (.wId18To1F 7 0xFF) ∧ decodeNat 0x2000 = .error .widerThan13Bits ∧
  decodeEvent .step = .step ∧ decodeEvent .reset = .reset ∧ decodeEvent .pull = .pull ∧
  decodeEvent (.seek 5) = .seek 5

/-- Each register field is the bit range the layouts give it, read as an unsigned integer (R104 to R122), and the
constant tables have the spec's entries, one by one (R163, R196, R200, R211, R217, R303). -/
def Obligations.FieldsAndConstantTables : Prop :=
  (∀ b : Byte,
    (Field.duty b).toNat = b.toNat / 64 ∧ (Field.halt b).toNat = b.toNat / 32 % 2 ∧
    (Field.constantMode b).toNat = b.toNat / 16 % 2 ∧ (Field.volume b).toNat = b.toNat % 16 ∧
    (Field.sweepEnabled b).toNat = b.toNat / 128 ∧ (Field.sweepPeriod b).toNat = b.toNat / 16 % 8 ∧
    (Field.sweepNegate b).toNat = b.toNat / 8 % 2 ∧ (Field.sweepShift b).toNat = b.toNat % 8 ∧
    (Field.lengthIndex b).toNat = b.toNat / 8 ∧ (Field.timerHigh b).toNat = b.toNat % 8 ∧
    (Field.triControl b).toNat = b.toNat / 128 ∧ (Field.triReload b).toNat = b.toNat % 128 ∧
    (Field.noiseMode b).toNat = b.toNat / 128 ∧ (Field.noiseIndex b).toNat = b.toNat % 16 ∧
    (Field.dmcIrqEnable b).toNat = b.toNat / 128 ∧ (Field.dmcLoop b).toNat = b.toNat / 64 % 2 ∧
    (Field.dmcRate b).toNat = b.toNat % 16 ∧ (Field.dmcLevel b).toNat = b.toNat % 128 ∧
    (Field.enableP1 b).toNat = b.toNat % 2 ∧ (Field.enableP2 b).toNat = b.toNat / 2 % 2 ∧
    (Field.enableTri b).toNat = b.toNat / 4 % 2 ∧ (Field.enableNoi b).toNat = b.toNat / 8 % 2 ∧
    (Field.enableDmc b).toNat = b.toNat / 16 % 2 ∧ (Field.frameMode b).toNat = b.toNat / 128 ∧
    (Field.frameInhibit b).toNat = b.toNat / 64 % 2) ∧
  (List.range 32).map (fun i => (lengthEntry (BitVec.ofNat 5 i)).toNat) =
    [10, 254, 20, 2, 40, 4, 80, 6, 160, 8, 60, 10, 14, 12, 26, 14,
     12, 16, 24, 18, 48, 20, 96, 22, 192, 24, 72, 26, 16, 28, 32, 30] ∧
  (List.range 4).map (fun d => (List.range 8).map fun p => (dutyBit (BitVec.ofNat 2 d) (BitVec.ofNat 3 p)).toNat) =
    [[0, 1, 0, 0, 0, 0, 0, 0], [0, 1, 1, 0, 0, 0, 0, 0], [0, 1, 1, 1, 1, 0, 0, 0], [1, 0, 0, 1, 1, 1, 1, 1]] ∧
  (List.range 32).map (fun p => triLevel (BitVec.ofNat 5 p)) =
    [15, 14, 13, 12, 11, 10, 9, 8, 7, 6, 5, 4, 3, 2, 1, 0,
     0, 1, 2, 3, 4, 5, 6, 7, 8, 9, 10, 11, 12, 13, 14, 15] ∧
  (List.range 16).map (fun i => (noiseDividerPeriod (BitVec.ofNat 4 i)).toNat) =
    [1, 3, 7, 15, 31, 47, 63, 79, 100, 126, 189, 253, 380, 507, 1016, 2033] ∧
  (List.range 16).map (fun i => (dmcDividerPeriod (BitVec.ofNat 4 i)).toNat) =
    [213, 189, 169, 159, 142, 126, 112, 106, 94, 79, 70, 63, 52, 41, 35, 26] ∧
  (List.range 4).map (fsPattern .fourStep) =
    [(true, false, false), (true, true, false), (true, false, false), (true, true, true)] ∧
  (List.range 5).map (fsPattern .fiveStep) =
    [(true, false, false), (true, true, false), (true, false, false), (true, true, false), (false, false, false)]

/-! ## The step of the machine -/

/-- When an event has been issued, `step` runs the operation it decodes to, on the state without the event, and adds
nothing; with no event issued nothing happens (R10, R80; the empty queue is DESIGN CHOICE of
notes/assumptions/1.md). -/
def Obligations.StepRunsTheDecodedEvent : Prop :=
  ∀ s : State,
    (∀ (e : Event) (rest : List Event), s.pending = e :: rest →
      step s = exec (decodeEvent e) { s with pending := rest }) ∧
    (s.pending = [] → step s = .next s)

/-- R355: no operation faults or is refused, in any state; so no run stops. -/
def Obligations.NoOperationStops : Prop :=
  (∀ (i : Instr) (s : State), ∃ t, exec i s = .next t) ∧ ∀ s : State, SafeRun s

/-- No operation writes the sample memory (R70), takes or issues an event, changes the FIFO's capacity (R340), or
changes what was presented, emitted and delivered but by adding at the end (R12): every byte of the memory reads
as before. -/
def Obligations.MemoryIsNeverWritten : Prop :=
  ∀ (i : Instr) (s t : State), exec i s = .next t →
    (∀ a : Addr, Memory.read t.mem a = Memory.read s.mem a) ∧ t.mem = s.mem ∧ t.pending = s.pending ∧
    t.fifo.cap = s.fifo.cap ∧ s.obs.reads <+: t.obs.reads ∧ s.obs.emitted <+: t.obs.emitted ∧
    s.obs.delivered <+: t.obs.delivered

/-- A `WRITE` leaves `phase2`, `mix` and `fifo` alone and emits nothing (R260); of the phases only those of p1 and p2
move, to 0, by their own register 3. -/
def Obligations.WritesLeaveTheOutputSideAlone : Prop :=
  ∀ (w : WriteWord) (s t : State), exec (decodeWord w) s = .next t →
    t.phase2 = s.phase2 ∧ t.mix = s.mix ∧ t.fifo = s.fifo ∧ t.obs.emitted = s.obs.emitted ∧
    t.obs.result = s.obs.result ∧ t.p1.phase = (if wordId w = 0x03 then 0 else s.p1.phase) ∧
    t.p2.phase = (if wordId w = 0x07 then 0 else s.p2.phase) ∧ t.tri.phase = s.tri.phase ∧
    t.noi.lfsr = s.noi.lfsr ∧ t.dmc.bits = s.dmc.bits

/-! ## The register writes (spec/46_register_writes.md) -/

/-- R262, R264, R267, R268: registers 0 and 1 of the pulse channels: duty, halt and loop, volume mode, level and
divider period; sweep enable, period, negate, shift and reload flag. -/
def Obligations.PulseControlWrites : Prop :=
  ∀ (b : Byte) (s : State),
    decodeWord (packWord 0x00 b) = .wP1R0 b ∧ decodeWord (packWord 0x04 b) = .wP2R0 b ∧
    exec (.wP1R0 b) s = .next { s with
      reg.p1.r0 := b, p1.duty := b.extractLsb' 6 2, p1.len.halt := b.getLsbD 5, p1.env.loop := b.getLsbD 5,
      p1.env.constantMode := b.getLsbD 4, p1.env.constantLevel := b.extractLsb' 0 4,
      p1.env.div.period := b.extractLsb' 0 4 } ∧
    exec (.wP2R0 b) s = .next { s with
      reg.p2.r0 := b, p2.duty := b.extractLsb' 6 2, p2.len.halt := b.getLsbD 5, p2.env.loop := b.getLsbD 5,
      p2.env.constantMode := b.getLsbD 4, p2.env.constantLevel := b.extractLsb' 0 4,
      p2.env.div.period := b.extractLsb' 0 4 } ∧
    decodeWord (packWord 0x01 b) = .wP1R1 b ∧ decodeWord (packWord 0x05 b) = .wP2R1 b ∧
    exec (.wP1R1 b) s = .next { s with
      reg.p1.r1 := b, p1.sweep.enabled := b.getLsbD 7, p1.sweep.div.period := b.extractLsb' 4 3,
      p1.sweep.negate := b.getLsbD 3, p1.sweep.shift := b.extractLsb' 0 3, p1.sweep.reload := true } ∧
    exec (.wP2R1 b) s = .next { s with
      reg.p2.r1 := b, p2.sweep.enabled := b.getLsbD 7, p2.sweep.div.period := b.extractLsb' 4 3,
      p2.sweep.negate := b.getLsbD 3, p2.sweep.shift := b.extractLsb' 0 3, p2.sweep.reload := true }

/-- R265, R269, R273: register 2 of p1, p2 and tri: the low 8 bits of the period, the high 3 bits kept, the counter
untouched. -/
def Obligations.PeriodLowWrites : Prop :=
  ∀ (b : Byte) (s : State),
    decodeWord (packWord 0x02 b) = .wP1R2 b ∧ decodeWord (packWord 0x06 b) = .wP2R2 b ∧
    decodeWord (packWord 0x0A b) = .wTriR2 b ∧
    exec (.wP1R2 b) s = .next { s with
      reg.p1.r2 := b, p1.timer.div.period := s.p1.timer.div.period.extractLsb' 8 3 ++ b } ∧
    exec (.wP2R2 b) s = .next { s with
      reg.p2.r2 := b, p2.timer.div.period := s.p2.timer.div.period.extractLsb' 8 3 ++ b } ∧
    exec (.wTriR2 b) s = .next { s with
      reg.tri.r2 := b, tri.timer.div.period := s.tri.timer.div.period.extractLsb' 8 3 ++ b }

/-- R266, R270: register 3 of the pulse channels: the high 3 bits of the period, the counter reset to the assembled
period, the length load (only while enabled), the envelope restart and the phase restart. -/
def Obligations.PulseRegister3Writes : Prop :=
  ∀ (b : Byte) (s : State),
    decodeWord (packWord 0x03 b) = .wP1R3 b ∧ decodeWord (packWord 0x07 b) = .wP2R3 b ∧
    exec (.wP1R3 b) s = .next { s with
      reg.p1.r3 := b, p1.timer.div.period := b.extractLsb' 0 3 ++ s.p1.timer.div.period.extractLsb' 0 8,
      p1.timer.div.counter := b.extractLsb' 0 3 ++ s.p1.timer.div.period.extractLsb' 0 8,
      p1.len.counter := if s.p1.len.enabled then lengthEntry (b.extractLsb' 3 5) else s.p1.len.counter,
      p1.env.restart := true, p1.phase := 0 } ∧
    exec (.wP2R3 b) s = .next { s with
      reg.p2.r3 := b, p2.timer.div.period := b.extractLsb' 0 3 ++ s.p2.timer.div.period.extractLsb' 0 8,
      p2.timer.div.counter := b.extractLsb' 0 3 ++ s.p2.timer.div.period.extractLsb' 0 8,
      p2.len.counter := if s.p2.len.enabled then lengthEntry (b.extractLsb' 3 5) else s.p2.len.counter,
      p2.env.restart := true, p2.phase := 0 }

/-- R271, R272, R276: registers 0, 1 and 3 of the triangle. -/
def Obligations.TriangleWrites : Prop :=
  ∀ (b : Byte) (s : State),
    decodeWord (packWord 0x08 b) = .wTriR0 b ∧ decodeWord (packWord 0x09 b) = .wTriR1 b ∧
    decodeWord (packWord 0x0B b) = .wTriR3 b ∧
    exec (.wTriR0 b) s = .next { s with
      reg.tri.r0 := b, tri.control := b.getLsbD 7, tri.len.halt := b.getLsbD 7,
      tri.reloadValue := b.extractLsb' 0 7 } ∧
    exec (.wTriR1 b) s = .next { s with reg.tri.r1 := b } ∧
    exec (.wTriR3 b) s = .next { s with
      reg.tri.r3 := b, tri.timer.div.period := b.extractLsb' 0 3 ++ s.tri.timer.div.period.extractLsb' 0 8,
      tri.timer.div.counter := b.extractLsb' 0 3 ++ s.tri.timer.div.period.extractLsb' 0 8,
      tri.len.counter := if s.tri.len.enabled then lengthEntry (b.extractLsb' 3 5) else s.tri.len.counter,
      tri.reloadFlag := true }

/-- R277, R278, R280, R281: the noise channel's registers. -/
def Obligations.NoiseWrites : Prop :=
  ∀ (b : Byte) (s : State),
    decodeWord (packWord 0x0C b) = .wNoiR0 b ∧ decodeWord (packWord 0x0D b) = .wNoiR1 b ∧
    decodeWord (packWord 0x0E b) = .wNoiR2 b ∧ decodeWord (packWord 0x0F b) = .wNoiR3 b ∧
    exec (.wNoiR0 b) s = .next { s with
      reg.noi.r0 := b, noi.len.halt := b.getLsbD 5, noi.env.loop := b.getLsbD 5,
      noi.env.constantMode := b.getLsbD 4, noi.env.constantLevel := b.extractLsb' 0 4,
      noi.env.div.period := b.extractLsb' 0 4 } ∧
    exec (.wNoiR1 b) s = .next { s with reg.noi.r1 := b } ∧
    exec (.wNoiR2 b) s = .next { s with
      reg.noi.r2 := b, noi.mode := b.getLsbD 7, noi.periodIndex := b.extractLsb' 0 4,
      noi.timer.div.period := noiseDividerPeriod (b.extractLsb' 0 4) } ∧
    exec (.wNoiR3 b) s = .next { s with
      reg.noi.r3 := b,
      noi.len.counter := if s.noi.len.enabled then lengthEntry (b.extractLsb' 3 5) else s.noi.len.counter,
      noi.env.restart := true }

/-- R283 to R286: the sample-playback channel's registers. -/
def Obligations.DmcWrites : Prop :=
  ∀ (b : Byte) (s : State),
    decodeWord (packWord 0x10 b) = .wDmcR0 b ∧ decodeWord (packWord 0x11 b) = .wDmcR1 b ∧
    decodeWord (packWord 0x12 b) = .wDmcR2 b ∧ decodeWord (packWord 0x13 b) = .wDmcR3 b ∧
    exec (.wDmcR0 b) s = .next { s with
      reg.dmc.r0 := b, dmc.irqEnable := b.getLsbD 7,
      dmc.irqFlag := if b.getLsbD 7 then s.dmc.irqFlag else false, dmc.loop := b.getLsbD 6,
      dmc.rateIndex := b.extractLsb' 0 4, dmc.timer.div.period := dmcDividerPeriod (b.extractLsb' 0 4) } ∧
    exec (.wDmcR1 b) s = .next { s with reg.dmc.r1 := b, dmc.level := b.extractLsb' 0 7 } ∧
    exec (.wDmcR2 b) s = .next { s with reg.dmc.r2 := b } ∧
    exec (.wDmcR3 b) s = .next { s with reg.dmc.r3 := b } ∧
    (∀ r : Latches, (sampleAddress r).toNat = 0xC000 + 64 * r.r2.toNat ∧
      (sampleLength r).toNat = 16 * r.r3.toNat + 1)

/-- R287, R291, R293: a write to a reserved id changes no state, whatever the byte. -/
def Obligations.ReservedWrites : Prop :=
  ∀ (low : BitVec 3) (b : Byte) (s : State),
    decodeWord (packWord 0x14 b) = .wId14 b ∧ decodeWord (packWord 0x16 b) = .wId16 b ∧
    decodeWord (packWord (0x18 + low.setWidth 5) b) = .wId18To1F low b ∧
    exec (.wId14 b) s = .next s ∧ exec (.wId16 b) s = .next s ∧ exec (.wId18To1F low b) s = .next s

/-- The state after the first five statements of an ENABLE write (R290): the four `SetEnabled` and
`dmc.irq_flag <- 0`. -/
def enablesWritten (b : Byte) (s : State) : State := { s with
  p1.len.enabled := b.getLsbD 0, p1.len.counter := if b.getLsbD 0 then s.p1.len.counter else 0,
  p2.len.enabled := b.getLsbD 1, p2.len.counter := if b.getLsbD 1 then s.p2.len.counter else 0,
  tri.len.enabled := b.getLsbD 2, tri.len.counter := if b.getLsbD 2 then s.tri.len.counter else 0,
  noi.len.enabled := b.getLsbD 3, noi.len.counter := if b.getLsbD 3 then s.noi.len.counter else 0,
  dmc.irqFlag := false }

/-- R290: the ENABLE write.  With bit 4 clear the sample is dropped; with it set a finished sample is restarted and
the memory reader runs. -/
def Obligations.EnableWrites : Prop :=
  ∀ (b : Byte) (s : State),
    decodeWord (packWord 0x15 b) = .wEnable b ∧
    (b.getLsbD 4 = false →
      exec (.wEnable b) s = .next { enablesWritten b s with dmc.remaining := 0 }) ∧
    (b.getLsbD 4 = true → ∃ t,
      exec .dmcFill (if s.dmc.remaining = 0 then
          { enablesWritten b s with
            dmc.curAddr := sampleAddress s.reg.dmc, dmc.remaining := sampleLength s.reg.dmc }
        else enablesWritten b s) = .next t ∧
      exec (.wEnable b) s = .next t)

/-- The state after the statements of `FS.WriteMode(m, inh)` before its two clocks (R304). -/
def modeWritten (m inh : Bool) (s : State) : State := { s with
  fs.mode := if m then .fiveStep else .fourStep, fs.irqInhibit := inh,
  fs.irqFlag := if inh then false else s.fs.irqFlag, fs.step := 0, fs.div.counter := s.fs.div.period }

/-- R292, R304: the FRAME write is `FS.WriteMode(b[7], b[6])`, which writes the mode and the inhibit bit, clears the
flag when inhibiting, restarts the sequence, and with the mode bit set fires both control clocks at once. -/
def Obligations.FrameWrites : Prop :=
  (∀ (m inh : Bool) (s : State),
    (m = false → exec (.fsWriteMode m inh) s = .next (modeWritten m inh s)) ∧
    (m = true → ∃ u t, exec .clockQuarterFrameAll (modeWritten m inh s) = .next u ∧
      exec .clockHalfFrameAll u = .next t ∧ exec (.fsWriteMode m inh) s = .next t)) ∧
  ∀ (b : Byte) (s : State), decodeWord (packWord 0x17 b) = .wFrame b ∧
    ∃ t, exec (.fsWriteMode (b.getLsbD 7) (b.getLsbD 6)) s = .next t ∧ exec (.wFrame b) s = .next t

/-! ## The other events -/

/-- R321: a `STEP` is `FS.Clock`, `ClockTimers`, `Mix`, the accumulation and `Resample`, in this order. -/
def Obligations.StepEventOrder : Prop :=
  ∀ s : State, ∃ (u v : State) (m : Rat) (t : State),
    exec .fsClock s = .next u ∧ exec .clockTimers u = .next v ∧
    exec .mix v = .next { v with obs.result := .rational m } ∧
    exec .resample { v with mix.sum := v.mix.sum + m, mix.count := v.mix.count + 1 } = .next t ∧
    exec .step s = .next t

/-- R380, R382, R383: after `RESET` every field but `fifo.*` has the value of R42's table; the FIFO and the sample
memory are untouched. -/
def Obligations.ResetEvent : Prop :=
  ∀ s : State, exec .reset s = .next
    { reg := ⟨⟨0, 0, 0, 0⟩, ⟨0, 0, 0, 0⟩, ⟨0, 0, 0, 0⟩, ⟨0, 0, 0, 0⟩, ⟨0, 0, 0, 0⟩⟩
      p1 := { timer := ⟨⟨0, 0⟩⟩, len := ⟨false, false, 0⟩, env := ⟨false, false, 0, false, 0, ⟨0, 0⟩⟩,
              sweep := ⟨false, false, false, 0, ⟨0, 0⟩⟩, duty := 0, phase := 0 }
      p2 := { timer := ⟨⟨0, 0⟩⟩, len := ⟨false, false, 0⟩, env := ⟨false, false, 0, false, 0, ⟨0, 0⟩⟩,
              sweep := ⟨false, false, false, 0, ⟨0, 0⟩⟩, duty := 0, phase := 0 }
      tri := { timer := ⟨⟨0, 0⟩⟩, len := ⟨false, false, 0⟩, control := false, reloadValue := 0, lin := 0,
               reloadFlag := false, phase := 0 }
      noi := { timer := ⟨⟨1, 1⟩⟩, len := ⟨false, false, 0⟩, env := ⟨false, false, 0, false, 0, ⟨0, 0⟩⟩,
               mode := false, periodIndex := 0, lfsr := 0x0001 }
      dmc := { timer := ⟨⟨213, 213⟩⟩, irqEnable := false, loop := false, rateIndex := 0, level := 0,
               curAddr := 0, remaining := 0, buf := 0, bufFull := false, shift := 0, bits := 8,
               silence := true, irqFlag := false }
      fs := { mode := .fourStep, step := 0, irqInhibit := false, irqFlag := false, div := ⟨7456, 7456⟩ }
      mix := { acc := 0, sum := 0, count := 0 }
      phase2 := false
      fifo := s.fifo
      mem := s.mem
      pending := s.pending
      obs := s.obs }

/-- R381: the state at construction is the state after `RESET` together with an empty FIFO of some positive capacity;
the derived values are those below R42's table.  That no event is issued, the memory lists nothing and nothing was
observed are the model's own choices (notes/assumptions/1.md, 2.md, 10.md). -/
def Obligations.ConstructionIsResetWithAnEmptyFifo : Prop :=
  (∀ s : State, s.fifo = { seq := [], off := 0, cap := Config.fifoCapacity, drops := 0 } → s.mem = [] →
    s.pending = [] → s.obs = ⟨.nothing, [], [], []⟩ → exec .reset s = .next State.reset) ∧
  State.reset.fifo = { seq := [], off := 0, cap := Config.fifoCapacity, drops := 0 } ∧ 1 ≤ Config.fifoCapacity ∧
  State.reset.p1.getValue .p1 = 0 ∧ State.reset.p2.getValue .p2 = 0 ∧ State.reset.tri.getValue = 15 ∧
  State.reset.noi.getValue = 0 ∧ State.reset.dmc.getValue = 0 ∧ State.reset.p1.sweepSilence .p1 = true ∧
  State.reset.p2.sweepSilence .p2 = true ∧ State.reset.irqOut = false

/-- R342, R343: `PULL` answers "no data" and changes nothing, or answers the full remainder and moves the offset to
the end, the samples recorded as delivered; `SEEK(t)` writes `floor(t * SAMPLE_RATE * CHANNEL_COUNT / 1000)` to the
offset, unbounded, and nothing else. -/
def Obligations.ConsumerEvents : Prop :=
  ∀ s : State,
    (s.fifo.off ≥ s.fifo.seq.length → exec .pull s = .next { s with obs.result := .noData }) ∧
    (s.fifo.off < s.fifo.seq.length → exec .pull s = .next { s with
      fifo.off := s.fifo.seq.length, obs.result := .samples (s.fifo.seq.drop s.fifo.off),
      obs.delivered := s.obs.delivered ++ s.fifo.seq.drop s.fifo.off }) ∧
    ∀ t : Nat, ∃ off : Nat, off * 1000 ≤ t * 44100 * 1 ∧ t * 44100 * 1 < (off + 1) * 1000 ∧
      exec (.seek t) s = .next { s with fifo.off := off }

/-- R341: `Fifo.append` below capacity, at capacity with an advanced offset (compaction), and at capacity with offset
0 (failure, no field of the FIFO changes).  The sample offered is recorded in every case. -/
def Obligations.FifoAppend : Prop :=
  ∀ (x : Sample) (s : State),
    (s.fifo.seq.length < s.fifo.cap → exec (.fifoAppend x) s = .next { s with
      fifo.seq := s.fifo.seq ++ [x], obs.result := .flag true, obs.emitted := s.obs.emitted ++ [x] }) ∧
    (s.fifo.cap ≤ s.fifo.seq.length → s.fifo.off ≠ 0 → exec (.fifoAppend x) s = .next { s with
      fifo.seq := s.fifo.seq.drop (min s.fifo.off s.fifo.seq.length) ++ [x], fifo.off := 0,
      obs.result := .flag true, obs.emitted := s.obs.emitted ++ [x] }) ∧
    (s.fifo.cap ≤ s.fifo.seq.length → s.fifo.off = 0 → exec (.fifoAppend x) s = .next { s with
      obs.result := .flag false, obs.emitted := s.obs.emitted ++ [x] })

/-! ## Divider and Timer (spec/40_divider_timer.md) -/

/-- R141, R142, R143 for each of the eleven Dividers. -/
def Obligations.DividerOperations : Prop :=
  ∀ (d : DividerId) (p : BitVec d.width) (s : State),
    exec (.dividerSetPeriod d p) s = .next (s.setDivider d ⟨p, (s.divider d).counter⟩) ∧
    exec (.dividerResetCounter d) s = .next (s.setDivider d ⟨(s.divider d).period, (s.divider d).period⟩) ∧
    ((s.divider d).counter = 0 → exec (.dividerClock d) s = .next
      { s.setDivider d ⟨(s.divider d).period, (s.divider d).period⟩ with obs.result := .flag true }) ∧
    ((s.divider d).counter ≠ 0 → exec (.dividerClock d) s = .next
      { s.setDivider d ⟨(s.divider d).period, (s.divider d).counter - 1⟩ with obs.result := .flag false })

/-- What the component accessors of the statements below stand for: replacing a component by its name writes the
field of that name and nothing else, and reading it gives that field (R25 to R29). -/
def Obligations.ComponentsByName : Prop :=
  ∀ s : State,
    (∀ r, s.returning r = { s with obs.result := r }) ∧
    (∀ v, s.setPulse .p1 v = { s with p1 := v }) ∧ (∀ v, s.setPulse .p2 v = { s with p2 := v }) ∧
    (∀ v, s.setSplitTimer .p1 v = { s with p1.timer := v }) ∧
    (∀ v, s.setSplitTimer .p2 v = { s with p2.timer := v }) ∧
    (∀ v, s.setSplitTimer .tri v = { s with tri.timer := v }) ∧
    (∀ v, s.setTimer .p1 v = { s with p1.timer := v }) ∧ (∀ v, s.setTimer .p2 v = { s with p2.timer := v }) ∧
    (∀ v, s.setTimer .tri v = { s with tri.timer := v }) ∧ (∀ v, s.setTimer .noi v = { s with noi.timer := v }) ∧
    (∀ v, s.setTimer .dmc v = { s with dmc.timer := v }) ∧
    (∀ v, s.setLen .p1 v = { s with p1.len := v }) ∧ (∀ v, s.setLen .p2 v = { s with p2.len := v }) ∧
    (∀ v, s.setLen .tri v = { s with tri.len := v }) ∧ (∀ v, s.setLen .noi v = { s with noi.len := v }) ∧
    (∀ v, s.setEnv .p1 v = { s with p1.env := v }) ∧ (∀ v, s.setEnv .p2 v = { s with p2.env := v }) ∧
    (∀ v, s.setEnv .noi v = { s with noi.env := v }) ∧
    (∀ t v, s.setDivider (.timer t) v = s.setTimer t ⟨v⟩) ∧
    (∀ e v, s.setDivider (.env e) v = s.setEnv e { s.env e with div := v }) ∧
    (∀ x v, s.setDivider (.sweep x) v = s.setPulse x { s.pulse x with sweep.div := v }) ∧
    (∀ v, s.setDivider .fs v = { s with fs.div := v }) ∧
    s.pulse .p1 = s.p1 ∧ s.pulse .p2 = s.p2 ∧ s.timer .p1 = s.p1.timer ∧ s.timer .p2 = s.p2.timer ∧
    s.timer .tri = s.tri.timer ∧ s.timer .noi = s.noi.timer ∧ s.timer .dmc = s.dmc.timer ∧
    s.splitTimer .p1 = s.p1.timer ∧ s.splitTimer .p2 = s.p2.timer ∧ s.splitTimer .tri = s.tri.timer ∧
    s.len .p1 = s.p1.len ∧ s.len .p2 = s.p2.len ∧ s.len .tri = s.tri.len ∧ s.len .noi = s.noi.len ∧
    s.env .p1 = s.p1.env ∧ s.env .p2 = s.p2.env ∧ s.env .noi = s.noi.env ∧
    (∀ t, s.divider (.timer t) = (s.timer t).div) ∧ (∀ e, s.divider (.env e) = (s.env e).div) ∧
    (∀ x, s.divider (.sweep x) = (s.pulse x).sweep.div) ∧ s.divider .fs = s.fs.div

/-- R146 to R150: the split period writes of p1, p2 and tri, the whole write of any timer, the read of the live
period, and the clock: below `min_period` (2 for tri, 0 for the others) nothing is clocked and the answer is false;
otherwise it is the Divider's clock. -/
def Obligations.TimerOperations : Prop :=
  ∀ (t : SplitTimerId) (u : TimerId) (v8 : BitVec 8) (v3 : BitVec 3) (p : BitVec u.width) (s : State),
    exec (.timerSetPeriodLow8 t v8) s = .next (s.setSplitTimer t
      ⟨⟨(s.splitTimer t).div.period.extractLsb' 8 3 ++ v8, (s.splitTimer t).div.counter⟩⟩) ∧
    exec (.timerSetPeriodHigh3 t v3) s = .next (s.setSplitTimer t
      ⟨⟨v3 ++ (s.splitTimer t).div.period.extractLsb' 0 8, v3 ++ (s.splitTimer t).div.period.extractLsb' 0 8⟩⟩) ∧
    exec (.timerSetPeriod u p) s = .next (s.setTimer u ⟨⟨p, (s.timer u).div.counter⟩⟩) ∧
    exec (.timerGetPeriod u) s = .next { s with obs.result := .num (s.timer u).div.period.toNat } ∧
    ((s.timer u).div.period.toNat < (if u = .tri then 2 else 0) →
      exec (.timerClock u) s = .next { s with obs.result := .flag false }) ∧
    ((if u = .tri then 2 else 0) ≤ (s.timer u).div.period.toNat → ∃ v,
      exec (.dividerClock (.timer u)) s = .next v ∧ exec (.timerClock u) s = .next v)

/-- R144: a Divider with counter `c` and period `P` fires first on call `c + 1`, then every `P + 1` calls; and its
counter never exceeds the larger of the two (R41 (n)). -/
def Obligations.DividerFiresEveryPeriodPlusOne : Prop :=
  ∀ (w : Nat) (d : Divider w) (n : Nat),
    (((fun x => x.clock.1)^[n] d).clock.2 = true ↔
      d.counter.toNat ≤ n ∧ (n - d.counter.toNat) % (d.period.toNat + 1) = 0) ∧
    ((fun x => x.clock.1)^[n] d).period = d.period ∧
    ((fun x => x.clock.1)^[n] d).counter.toNat ≤ max d.period.toNat d.counter.toNat

/-! ## LengthCounter (spec/41_length_counter.md) -/

/-- R161 to R165 for each of the four length counters. -/
def Obligations.LengthCounterOperations : Prop :=
  ∀ (l : LengthId) (e h : Bool) (i : BitVec 5) (s : State),
    exec (.lengthSetEnabled l e) s = .next (s.setLen l { s.len l with
      enabled := e, counter := if e then (s.len l).counter else 0 }) ∧
    exec (.lengthSetHalt l h) s = .next (s.setLen l { s.len l with halt := h }) ∧
    exec (.lengthLoad l i) s = .next (s.setLen l { s.len l with
      counter := if (s.len l).enabled then lengthEntry i else (s.len l).counter }) ∧
    exec (.lengthClock l) s = .next (s.setLen l { s.len l with
      counter := if (s.len l).halt = false ∧ (s.len l).counter ≠ 0 then (s.len l).counter - 1
        else (s.len l).counter }) ∧
    exec (.lengthSilenceChannel l) s = .next { s with obs.result := .flag (decide ((s.len l).counter = 0)) } ∧
    exec (.lengthGetValue l) s = .next { s with obs.result := .num (s.len l).counter.toNat }

/-- R164, R166: `k` clocks of a counter that is not halted take it from N to N - k, stopping at 0; a halted counter
does not move. -/
def Obligations.LengthCounterDuration : Prop :=
  ∀ (l : LengthCounter) (k : Nat),
    (LengthCounter.clock^[k] l).counter.toNat = (if l.halt then l.counter.toNat else l.counter.toNat - k) ∧
    (LengthCounter.clock^[k] l).enabled = l.enabled ∧ (LengthCounter.clock^[k] l).halt = l.halt

/-! ## VolumeEnvelope (spec/42_envelope.md) -/

/-- R171 to R174, R176, R177 for each of the three envelopes; the clock of R173 case by case. -/
def Obligations.EnvelopeOperations : Prop :=
  ∀ (e : EnvelopeId) (v : BitVec 4) (b : Bool) (s : State),
    exec (.envelopeSetConstantVolume e v) s = .next (s.setEnv e { s.env e with
      constantLevel := v, div.period := v }) ∧
    exec (.envelopeRestart e) s = .next (s.setEnv e { s.env e with restart := true }) ∧
    exec (.envelopeSetLoop e b) s = .next (s.setEnv e { s.env e with loop := b }) ∧
    exec (.envelopeSetConstantVolumeMode e b) s = .next (s.setEnv e { s.env e with constantMode := b }) ∧
    exec (.envelopeGetVolume e) s = .next (s.returning
      (.num (if (s.env e).constantMode then (s.env e).constantLevel.toNat else (s.env e).counter.toNat))) ∧
    ((s.env e).restart = true → exec (.envelopeClock e) s = .next (s.setEnv e { s.env e with
      restart := false, counter := 15, div.counter := (s.env e).div.period })) ∧
    ((s.env e).restart = false → (s.env e).div.counter ≠ 0 → exec (.envelopeClock e) s = .next (s.setEnv e
      { s.env e with div.counter := (s.env e).div.counter - 1 })) ∧
    ((s.env e).restart = false → (s.env e).div.counter = 0 → exec (.envelopeClock e) s = .next (s.setEnv e
      { s.env e with
        div.counter := (s.env e).div.period,
        counter := if (s.env e).counter ≠ 0 then (s.env e).counter - 1
          else if (s.env e).loop then 15 else 0 }))

/-- R175: after a restart, with divider period `P`, each level lasts `P + 1` clocks, from 15 down; at 0 the counter
holds (loop = 0) or starts again from 15 (loop = 1). -/
def Obligations.EnvelopeDecay : Prop :=
  ∀ (e : Envelope) (n : Nat), e.restart = true →
    (Envelope.clock^[n + 1] e).counter.toNat =
      (if e.loop then 15 - n / (e.div.period.toNat + 1) % 16 else 15 - n / (e.div.period.toNat + 1)) ∧
    (e.constantMode = false →
      (Envelope.clock^[n + 1] e).getVolume = (Envelope.clock^[n + 1] e).counter)

/-! ## SweepUnit (spec/43_sweep.md) -/

/-- The target period of R181 on mathematical integers: `c` the period, `shift` the shift count, one more
subtracted on p1. -/
def targetOf (x : PulseId) (p : Pulse) : Int :=
  let c : Int := p.timer.div.period.toNat
  let d : Int := p.timer.div.period.toNat / 2 ^ p.sweep.shift.toNat
  if p.sweep.negate then max 0 (c - d - (match x with | .p1 => 1 | .p2 => 0)) else c + d

/-- R181, R183, R185 to R189: the derived signals, whatever `enabled` is, and the setters of a register-1 write. -/
def Obligations.SweepSignalsAndSetters : Prop :=
  ∀ (x : PulseId) (b : Bool) (v : BitVec 3) (s : State),
    (∃ n : Nat, (n : Int) = targetOf x (s.pulse x) ∧ n ≤ 0xFFE ∧
      exec (.sweepTarget x) s = .next { s with obs.result := .num n }) ∧
    exec (.sweepSilence x) s = .next (s.returning
      (.flag (decide ((s.pulse x).timer.div.period.toNat < 8 ∨ 0x7FF < targetOf x (s.pulse x))))) ∧
    exec (.sweepSetEnabled x b) s = .next (s.setPulse x { s.pulse x with sweep.enabled := b }) ∧
    exec (.sweepSetNegate x b) s = .next (s.setPulse x { s.pulse x with sweep.negate := b }) ∧
    exec (.sweepSetPeriod x v) s = .next (s.setPulse x { s.pulse x with sweep.div.period := v }) ∧
    exec (.sweepSetShiftCount x v) s = .next (s.setPulse x { s.pulse x with sweep.shift := v }) ∧
    exec (.sweepRestart x) s = .next (s.setPulse x { s.pulse x with sweep.reload := true })

/-- The condition of R182 on entry: enabled, the period at least 8, the target at most 0x7FF.  With
`SWEEP_SHIFT0_GUARD` at its default there is no condition on the shift. -/
def Retunes (x : PulseId) (p : Pulse) : Prop :=
  p.sweep.enabled = true ∧ 8 ≤ p.timer.div.period.toNat ∧ targetOf x p ≤ 0x7FF

/-- R182: a retune writes exactly the target into the timer's period and touches nothing else, not the timer's
counter. -/
def Obligations.SweepRetune : Prop :=
  ∀ (x : PulseId) (s : State),
    (¬ Retunes x (s.pulse x) → exec (.sweepRetune x) s = .next s) ∧
    (Retunes x (s.pulse x) → ∃ p : BitVec 11, (p.toNat : Int) = targetOf x (s.pulse x) ∧
      exec (.sweepRetune x) s = .next (s.setPulse x { s.pulse x with timer.div.period := p }))

/-- R184: `Sweep.Clock`: the divider is always advanced and a firing retunes on the period as it stands on entry;
on the reload path the divider is then reset and the flag cleared. -/
def Obligations.SweepClock : Prop :=
  ∀ (x : PulseId) (s : State), ∃ u v : State,
    exec (.dividerClock (.sweep x)) s = .next u ∧
    (if (s.pulse x).sweep.div.counter = 0 then exec (.sweepRetune x) u = .next v else v = u) ∧
    exec (.sweepClock x) s = .next (State.returning (if (s.pulse x).sweep.reload then
        v.setPulse x { v.pulse x with
          sweep.div.counter := (s.pulse x).sweep.div.period, sweep.reload := false }
      else v) s.obs.result)

/-! ## The waveform generators (spec/44_waveform.md) -/

/-- R197 to R199, R201, R202, R206, R207: the pulse's and the triangle's phase sequencers, and the linear counter:
reload or count down first, then the flag is cleared unless `control` is set. -/
def Obligations.PhasesAndLinearCounter : Prop :=
  ∀ (x : PulseId) (s : State),
    exec (.pulseWaveAdvance x) s = .next (s.setPulse x { s.pulse x with
      phase := BitVec.ofNat 3 (((s.pulse x).phase.toNat + 1) % 8) }) ∧
    exec (.pulseWaveRestart x) s = .next (s.setPulse x { s.pulse x with phase := 0 }) ∧
    exec (.pulseWaveOutput x) s = .next (s.returning (.flag (dutyBit (s.pulse x).duty (s.pulse x).phase))) ∧
    exec .triWaveAdvance s = .next { s with tri.phase := BitVec.ofNat 5 ((s.tri.phase.toNat + 1) % 32) } ∧
    exec .triWaveOutput s = .next { s with obs.result := .num (triLevel s.tri.phase) } ∧
    exec .linearCounterClock s = .next { s with
      tri.lin := if s.tri.reloadFlag then s.tri.reloadValue else if s.tri.lin ≠ 0 then s.tri.lin - 1 else 0,
      tri.reloadFlag := s.tri.reloadFlag && s.tri.control } ∧
    exec .linearCounterSetReloadFlag s = .next { s with tri.reloadFlag := true }

/-- R212, R213: the noise shift register: shifted right, the feedback (bit 0 xor bit 1, or bit 6 in mode 1) into bit
14; the output is the complement of bit 0. -/
def Obligations.NoiseShiftRegister : Prop :=
  ∀ s : State,
    (∃ lfsr : BitVec 15,
      lfsr.toNat = s.noi.lfsr.toNat / 2 +
        16384 * (s.noi.lfsr.getLsbD 0 ^^ s.noi.lfsr.getLsbD (if s.noi.mode then 6 else 1)).toNat ∧
      exec .noiseWaveAdvance s = .next { s with noi.lfsr := lfsr }) ∧
    exec .noiseWaveOutput s = .next { s with obs.result := .flag (!s.noi.lfsr.getLsbD 0) }

/-- The state after the fetch of R219, before the test for the end of the sample. -/
def byteFetched (s : State) : State := { s with
  dmc.buf := Memory.read s.mem s.dmc.curAddr, dmc.bufFull := true,
  dmc.curAddr := if s.dmc.curAddr = 0xFFFF then 0x8000 else s.dmc.curAddr + 1,
  dmc.remaining := s.dmc.remaining - 1, obs.reads := s.obs.reads ++ [s.dmc.curAddr] }

/-- R218, R219: the memory reader.  A full buffer or a byte count of 0 changes nothing; otherwise one byte is read,
and after the last one a looping sample restarts or an enabled flag is raised. -/
def Obligations.DmcMemoryReader : Prop :=
  ∀ s : State,
    exec .dmcRestartSample s = .next { s with
      dmc.curAddr := sampleAddress s.reg.dmc, dmc.remaining := sampleLength s.reg.dmc } ∧
    (s.dmc.bufFull = true ∨ s.dmc.remaining = 0 → exec .dmcFill s = .next s) ∧
    (s.dmc.bufFull = false → s.dmc.remaining ≠ 0 → s.dmc.remaining ≠ 1 →
      exec .dmcFill s = .next (byteFetched s)) ∧
    (s.dmc.bufFull = false → s.dmc.remaining = 1 → s.dmc.loop = true →
      exec .dmcFill s = .next { byteFetched s with
        dmc.curAddr := sampleAddress s.reg.dmc, dmc.remaining := sampleLength s.reg.dmc }) ∧
    (s.dmc.bufFull = false → s.dmc.remaining = 1 → s.dmc.loop = false →
      exec .dmcFill s = .next { byteFetched s with dmc.irqFlag := s.dmc.irqFlag || s.dmc.irqEnable })

/-- R220 to R223: the output unit.  A clock moves the level by the bit leaving the shift register (unless silenced),
shifts, and counts the bit; when the count reaches 0 a new cycle takes the buffered byte, or silences.  The
decrement is stated where R41 (l) keeps it, at a non-zero count. -/
def Obligations.DmcOutputUnit : Prop :=
  (∀ s : State, exec (.dmcStepLevel true) s =
    .next { s with dmc.level := if s.dmc.level.toNat ≤ 125 then s.dmc.level + 2 else s.dmc.level }) ∧
  (∀ s : State, exec (.dmcStepLevel false) s =
    .next { s with dmc.level := if 2 ≤ s.dmc.level.toNat then s.dmc.level - 2 else s.dmc.level }) ∧
  (∀ s : State, exec .dmcOutput s = .next { s with obs.result := .num s.dmc.level.toNat }) ∧
  (∀ s : State, s.dmc.bufFull = false →
    exec .dmcStartOutputCycle s = .next { s with dmc.bits := 8, dmc.silence := true }) ∧
  (∀ s : State, s.dmc.bufFull = true → ∃ t,
    exec .dmcFill { s with dmc.bits := 8, dmc.silence := false, dmc.shift := s.dmc.buf, dmc.bufFull := false } =
      .next t ∧ exec .dmcStartOutputCycle s = .next t) ∧
  (∀ s : State, s.dmc.bits ≠ 0 → ∃ u t,
    (if s.dmc.silence then u = s else exec (.dmcStepLevel (s.dmc.shift.getLsbD 0)) s = .next u) ∧
    (if s.dmc.bits = 1 then
        exec .dmcStartOutputCycle { u with dmc.shift := s.dmc.shift >>> 1, dmc.bits := 0 } = .next t
      else t = { u with dmc.shift := s.dmc.shift >>> 1, dmc.bits := s.dmc.bits - 1 }) ∧
    exec .dmcOutputClock s = .next t)

/-! ## The channels (spec/45_channels.md) -/

/-- R231, R234, R235: the clocks of a pulse channel. -/
def Obligations.PulseClocks : Prop :=
  ∀ (x : PulseId) (s : State),
    ((s.pulse x).timer.div.counter = 0 → exec (.pulseClockTimer x) s = .next (s.setPulse x { s.pulse x with
      timer.div.counter := (s.pulse x).timer.div.period, phase := (s.pulse x).phase + 1 })) ∧
    ((s.pulse x).timer.div.counter ≠ 0 → exec (.pulseClockTimer x) s = .next (s.setPulse x { s.pulse x with
      timer.div.counter := (s.pulse x).timer.div.counter - 1 })) ∧
    (∃ t, exec (.envelopeClock (match x with | .p1 => .p1 | .p2 => .p2)) s = .next t ∧
      exec (.pulseClockQuarterFrame x) s = .next t) ∧
    (∃ u t, exec (.lengthClock (match x with | .p1 => .p1 | .p2 => .p2)) s = .next u ∧
      exec (.sweepClock x) u = .next t ∧ exec (.pulseClockHalfFrame x) s = .next t)

/-- R236, R237, R239: the clocks of the triangle.  The timer is frozen below period 2; its firing advances the phase
only while both counters are non-zero. -/
def Obligations.TriangleClocks : Prop :=
  ∀ s : State,
    (s.tri.timer.div.period.toNat < 2 → exec .triangleClockTimer s = .next s) ∧
    (2 ≤ s.tri.timer.div.period.toNat → s.tri.timer.div.counter ≠ 0 → exec .triangleClockTimer s =
      .next { s with tri.timer.div.counter := s.tri.timer.div.counter - 1 }) ∧
    (2 ≤ s.tri.timer.div.period.toNat → s.tri.timer.div.counter = 0 → exec .triangleClockTimer s =
      .next { s with
        tri.timer.div.counter := s.tri.timer.div.period,
        tri.phase := if s.tri.lin ≠ 0 ∧ s.tri.len.counter ≠ 0 then s.tri.phase + 1 else s.tri.phase }) ∧
    (∃ t, exec .linearCounterClock s = .next t ∧ exec .triangleClockQuarterFrame s = .next t) ∧
    (∃ t, exec (.lengthClock .tri) s = .next t ∧ exec .triangleClockHalfFrame s = .next t)

/-- R241, R243, R244, R246, R247: the clocks of the noise and sample-playback channels. -/
def Obligations.NoiseAndDmcClocks : Prop :=
  ∀ s : State,
    (s.noi.timer.div.counter = 0 → ∃ t,
      exec .noiseWaveAdvance { s with noi.timer.div.counter := s.noi.timer.div.period } = .next t ∧
      exec .noiseClockTimer s = .next t) ∧
    (s.noi.timer.div.counter ≠ 0 → exec .noiseClockTimer s =
      .next { s with noi.timer.div.counter := s.noi.timer.div.counter - 1 }) ∧
    (∃ t, exec (.envelopeClock .noi) s = .next t ∧ exec .noiseClockQuarterFrame s = .next t) ∧
    (∃ t, exec (.lengthClock .noi) s = .next t ∧ exec .noiseClockHalfFrame s = .next t) ∧
    (s.dmc.timer.div.counter = 0 → ∃ t,
      exec .dmcOutputClock { s with dmc.timer.div.counter := s.dmc.timer.div.period } = .next t ∧
      exec .dmcClockTimer s = .next t) ∧
    (s.dmc.timer.div.counter ≠ 0 → exec .dmcClockTimer s =
      .next { s with dmc.timer.div.counter := s.dmc.timer.div.counter - 1 }) ∧
    exec .dmcClockQuarterFrame s = .next s ∧ exec .dmcClockHalfFrame s = .next s

/-- R233, R238, R242, R245, with the ranges of R41 (d), (f): the output values of the five channels. -/
def Obligations.ChannelValues : Prop :=
  ∀ (x : PulseId) (s : State),
    (∃ v ≤ 15, v = (if (s.pulse x).timer.div.period.toNat < 8 ∨ 0x7FF < targetOf x (s.pulse x) ∨
          (s.pulse x).len.counter = 0 then 0
        else (s.pulse x).env.getVolume.toNat * (dutyBit (s.pulse x).duty (s.pulse x).phase).toNat) ∧
      exec (.pulseGetValue x) s = .next { s with obs.result := .num v }) ∧
    (∃ v ≤ 15, v = triLevel s.tri.phase ∧ exec .triangleGetValue s = .next { s with obs.result := .num v }) ∧
    (∃ v ≤ 15, v = (if s.noi.len.counter = 0 then 0
        else s.noi.env.getVolume.toNat * (1 - (s.noi.lfsr.getLsbD 0).toNat)) ∧
      exec .noiseGetValue s = .next { s with obs.result := .num v }) ∧
    (∃ v ≤ 127, v = s.dmc.level.toNat ∧ exec .dmcGetValue s = .next { s with obs.result := .num v })

/-- R248, R249: the fan-out of the control clocks, and that the order of the two fan-outs cannot be observed. -/
def Obligations.ControlClockFanOut : Prop :=
  ∀ s : State,
    (∃ a b c t, exec (.pulseClockQuarterFrame .p1) s = .next a ∧ exec (.pulseClockQuarterFrame .p2) a = .next b ∧
      exec .triangleClockQuarterFrame b = .next c ∧ exec .noiseClockQuarterFrame c = .next t ∧
      exec .clockQuarterFrameAll s = .next t) ∧
    (∃ a b c t, exec (.pulseClockHalfFrame .p1) s = .next a ∧ exec (.pulseClockHalfFrame .p2) a = .next b ∧
      exec .triangleClockHalfFrame b = .next c ∧ exec .noiseClockHalfFrame c = .next t ∧
      exec .clockHalfFrameAll s = .next t) ∧
    (∃ a b t, exec .clockQuarterFrameAll s = .next a ∧ exec .clockHalfFrameAll a = .next t ∧
      exec .clockHalfFrameAll s = .next b ∧ exec .clockQuarterFrameAll b = .next t)

/-! ## The frame sequencer (spec/47_frame_sequencer.md) -/

/-- R301, R302, with the pattern of R303.  A position: quarter-frame clock, half-frame clock, interrupt flag, in this
order.  Between firings only the prescaler counts down; a firing runs the current position and moves the step
counter, which wraps at the mode's length. -/
def Obligations.SequencerOperations : Prop :=
  (∀ (q h i : Bool) (s : State), ∃ u v : State,
    (if q then exec .clockQuarterFrameAll s = .next u else u = s) ∧
    (if h then exec .clockHalfFrameAll u = .next v else v = u) ∧
    exec (.fsDoPosition q h i) s = .next { v with fs.irqFlag := s.fs.irqFlag || (i && !s.fs.irqInhibit) }) ∧
  ∀ s : State,
    (s.fs.div.counter ≠ 0 → exec .fsClock s = .next { s with fs.div.counter := s.fs.div.counter - 1 }) ∧
    (s.fs.div.counter = 0 → s.fs.step.toNat < s.fs.mode.positions → ∃ t,
      exec (.fsDoPosition (decide (s.fs.step.toNat < 4)) (decide (s.fs.step = 1 ∨ s.fs.step = 3))
          (decide (s.fs.mode = .fourStep ∧ s.fs.step = 3)))
        { s with fs.div.counter := s.fs.div.period } = .next t ∧
      exec .fsClock s = .next { t with
        fs.step := BitVec.ofNat 3 ((s.fs.step.toNat + 1) % (if s.fs.mode = .fourStep then 4 else 5)) })

/-- R301, R305: with `n` `STEP`s and nothing else, positions run every 7457 cycles: `e` cycles into the current
interval at the start, the prescaler is `(e + n) mod 7457` cycles into its interval at the end and the step counter
has moved by `(e + n) div 7457` positions. -/
def Obligations.SequencerTiming : Prop :=
  ∀ (n : Nat) (s t : State), s.fs.div.period = 7456 → s.fs.div.counter.toNat ≤ 7456 →
    s.fs.step.toNat < s.fs.mode.positions → RunsTo s (List.replicate n .step) t →
    t.fs.div.counter.toNat = 7456 - (7456 - s.fs.div.counter.toNat + n) % 7457 ∧
    t.fs.step.toNat = (s.fs.step.toNat + (7456 - s.fs.div.counter.toNat + n) / 7457) % s.fs.mode.positions ∧
    t.fs.mode = s.fs.mode ∧ t.fs.irqInhibit = s.fs.irqInhibit

/-- R357, R358, for the frame interrupt: a step sets the flag only by a `STEP` that runs position 3 of the 4-step mode
uninhibited, and clears it only by `RESET` or a FRAME write with bit 6 set. -/
def Obligations.FrameInterruptFlag : Prop :=
  ∀ (s t : State), step s = .next t →
    (s.fs.irqFlag = false → t.fs.irqFlag = true →
      s.pending.head? = some .step ∧ s.fs.mode = .fourStep ∧ s.fs.step = 3 ∧ s.fs.div.counter = 0 ∧
      s.fs.irqInhibit = false) ∧
    (s.fs.irqFlag = true → t.fs.irqFlag = false →
      s.pending.head? = some .reset ∨
      ∃ w : WriteWord, s.pending.head? = some (.write w) ∧ wordId w = 0x17 ∧ w.getLsbD 6 = true)

/-- R357, R358, for the sample-playback interrupt: a step sets the flag only by fetching the last byte of a
non-looping sample with the enable bit set, and clears it only by `RESET`, an ENABLE write, or a DMC_R0 write with
bit 7 clear. -/
def Obligations.DmcInterruptFlag : Prop :=
  ∀ (s t : State), step s = .next t →
    (s.dmc.irqFlag = false → t.dmc.irqFlag = true →
      s.dmc.loop = false ∧ s.dmc.irqEnable = true ∧ t.dmc.remaining = 0 ∧
      t.obs.reads.length = s.obs.reads.length + 1) ∧
    (s.dmc.irqFlag = true → t.dmc.irqFlag = false →
      s.pending.head? = some .reset ∨
      ∃ w : WriteWord, s.pending.head? = some (.write w) ∧
        (wordId w = 0x15 ∨ wordId w = 0x10 ∧ w.getLsbD 7 = false))

/-- The state with both interrupt flags clear. -/
def flagsCleared (s : State) : State := { s with fs.irqFlag := false, dmc.irqFlag := false }

/-- R358, R361: the interrupt output is the OR of the two flags, and a set flag has no other effect: an operation
leaves the same state, but for the two flags, as it leaves from the state with both flags clear. -/
def Obligations.InterruptFlagsAreLevels : Prop :=
  (∀ s : State, s.irqOut = (s.fs.irqFlag || s.dmc.irqFlag)) ∧
  ∀ (i : Instr) (s t u : State), exec i s = .next t → exec i (flagsCleared s) = .next u →
    flagsCleared t = flagsCleared u

/-! ## The mixer and the resampler (spec/48_mixer_resampler.md) -/

/-- R323: `ClockTimers`: the triangle every cycle, the four half-rate channels when `phase2` is 0, then the parity
toggles. -/
def Obligations.ClockTimersCadence : Prop :=
  ∀ s : State, ∃ u : State, exec .triangleClockTimer s = .next u ∧
    (s.phase2 = true → exec .clockTimers s = .next { u with phase2 := false }) ∧
    (s.phase2 = false → ∃ a b c d, exec (.pulseClockTimer .p1) u = .next a ∧
      exec (.pulseClockTimer .p2) a = .next b ∧ exec .noiseClockTimer b = .next c ∧
      exec .dmcClockTimer c = .next d ∧ exec .clockTimers s = .next { d with phase2 := true })

/-- R324, R326, R327: the mix is the sum of the two table entries, exact, at least 0 and at most
3096930587/3096991950. -/
def Obligations.MixValue : Prop :=
  ∀ s : State, ∃ m : Rat,
    m = (597 * (s.p1.getValue .p1 + s.p2.getValue .p2 : Nat) : Rat) /
          (50800 + 625 * (s.p1.getValue .p1 + s.p2.getValue .p2 : Nat)) +
        (16367 * (3 * s.tri.getValue + 2 * s.noi.getValue + s.dmc.getValue : Nat) : Rat) /
          (2432900 + 10000 * (3 * s.tri.getValue + 2 * s.noi.getValue + s.dmc.getValue : Nat)) ∧
    0 ≤ m ∧ m ≤ 3096930587 / 3096991950 ∧
    exec .mix s = .next { s with obs.result := .rational m }

/-- R331: `Scale` answers the integer `s` with `s + 32768 = floor(avg * 65535)`; an average in [0,1) gives a signed
16-bit integer. -/
def Obligations.ScaleValue : Prop :=
  ∀ (avg : Rat) (s : State), ∃ x : Int,
    ((x : Rat) + 32768 ≤ avg * 65535 ∧ avg * 65535 < (x : Rat) + 32769) ∧
    ((Instr.scale avg).wellFormed = true → -32768 ≤ x ∧ x ≤ 32767) ∧
    exec (.scale avg) s = .next { s with obs.result := .sample x }

/-- R329, R330: `Resample`: one sample period's accumulator; below `CPU_HZ` nothing else happens; at or above it the
average is scaled and appended, a failed append is counted, and the running sum restarts with the remainder.  The
average is stated where R15 keeps the division, at a non-zero count. -/
def Obligations.ResampleOperation : Prop :=
  ∀ s : State,
    (s.mix.acc + 44100 < 1789773 → exec .resample s = .next { s with mix.acc := s.mix.acc + 44100 }) ∧
    (1789773 ≤ s.mix.acc + 44100 → s.mix.count ≠ 0 → ∃ (x : Int) (u : State) (ok : Bool),
      ((x : Rat) + 32768 ≤ s.mix.sum / s.mix.count * 65535 ∧
        s.mix.sum / s.mix.count * 65535 < (x : Rat) + 32769) ∧
      exec (.fifoAppend x) s = .next u ∧ u.obs.result = .flag ok ∧
      exec .resample s = .next { u with
        obs.result := s.obs.result, fifo.drops := if ok then s.fifo.drops else s.fifo.drops + 1,
        mix.sum := 0, mix.count := 0, mix.acc := s.mix.acc + 44100 - 1789773 })

/-- R332: after `n` `STEP`s the number of samples emitted and the accumulator are those of an exact division: no
drift.  From reset the `k`-th sample is emitted by `STEP` number `ceil(k * CPU_HZ / SAMPLE_RATE)`; that nothing has
been emitted at reset, from which its lengths `k - 1` and `k` count, is the model's own choice
(notes/assumptions/10.md). -/
def Obligations.EmissionRate : Prop :=
  (∀ (n : Nat) (s t : State), s.mix.acc < 1789773 → RunsTo s (List.replicate n .step) t →
    t.obs.emitted.length = s.obs.emitted.length + (s.mix.acc + n * 44100) / 1789773 ∧
    t.mix.acc = (s.mix.acc + n * 44100) % 1789773) ∧
  ∀ (k n : Nat) (t u : State), 1 ≤ k → n + 1 = (k * 1789773 + 44099) / 44100 →
    RunsTo State.reset (List.replicate n .step) t → RunsTo State.reset (List.replicate (n + 1) .step) u →
    t.obs.emitted.length = k - 1 ∧ u.obs.emitted.length = k

/-! ## The FIFO and the two agents (spec/49_stream_buffer.md, spec/20_memory.md) -/

/-- R344: appending N samples (1 ≤ N ≤ capacity) to an empty FIFO and pulling returns them in order, a second pull
"no data"; appending at capacity with no prior pull fails and changes nothing. -/
def Obligations.AppendThenPull : Prop :=
  ∀ (f : Fifo) (xs : List Sample),
    (f.seq = [] → f.off = 0 → xs ≠ [] → xs.length ≤ f.cap →
      (xs.foldl (fun g x => (g.append x).1) f).pull.2 = .samples xs ∧
      (xs.foldl (fun g x => (g.append x).1) f).pull.1.pull.2 = .noData) ∧
    (∀ x : Sample, f.seq.length = f.cap → f.off = 0 → f.append x = (f, false)) ∧
    (f.off = f.seq.length → f.pull = (f, .noData))

/-- What has been delivered, followed by what is still to be read, is in the order of emission with the dropped
samples left out, and the offset is within the sequence. -/
def InEmissionOrder (s : State) : Prop :=
  (s.obs.delivered ++ s.fifo.seq.drop s.fifo.off).Sublist s.obs.emitted ∧ s.fifo.off ≤ s.fifo.seq.length

/-- R85: without `SEEK` there is no reordering and no sample is delivered twice: every step that takes no `SEEK` keeps
the emission order. -/
def Obligations.FifoKeepsEmissionOrder : Prop :=
  ∀ s t : State, InEmissionOrder s → (∀ n, s.pending.head? ≠ some (.seek n)) → step s = .next t →
    InEmissionOrder t

/-- R396: the producer's part of the state, the addresses read and the samples emitted depend only on the producer's
events, not on the consumer's events, the FIFO's content or capacity. -/
def Obligations.ProducerIsIndependentOfConsumer : Prop :=
  ∀ (s s' : State) (es es' : List Event), s.producerView = s'.producerView →
    es.filter Event.isProducer = es'.filter Event.isProducer →
    ∃ t t', RunsTo s es t ∧ RunsTo s' es' t' ∧ t.producerView = t'.producerView

/-- R83: a consumer operation that falls inside a `STEP`, before its append, is equivalent to the same operation just
before the whole `STEP` (`State.cycle` is the `STEP` up to the append, `State.resample` the rest). -/
def Obligations.ConsumerInsideStep : Prop :=
  ∀ (c : Event) (s u : State), c.isProducer = false → exec (decodeEvent c) s = .next u →
    exec (decodeEvent c) s.cycle = .next u.cycle ∧ exec .step s = .next s.cycle.resample

/-! ## The invariants (spec/10_state.md R41, R261) -/

/-- The two invariants below hold at construction (R381, R42).  That the memory lists nothing and that nothing has been
read or emitted, on which the clauses of `Sound` about `mem`, `obs.reads` and `obs.emitted` rest, are the model's own
choices (notes/assumptions/2.md, 10.md). -/
def Obligations.InvariantsAtReset : Prop := Sound State.reset ∧ FieldsFollowLatches State.reset

/-- R41: every step keeps the invariant, from every state that has it. -/
def Obligations.SoundIsKept : Prop := ∀ s t : State, Sound s → step s = .next t → Sound t

/-- R261: every step keeps each decoded field equal to the bits of the last byte written to its register. -/
def Obligations.LatchesStayInAgreement : Prop :=
  ∀ s t : State, FieldsFollowLatches s → step s = .next t → FieldsFollowLatches t
end

