-- ==== Sys2Proof/Laws/State.lean ====
section
/-! SUPPORT. One lemma per field for each update of Machine/Ops.lean: what reading a field of the updated state
gives, so that no proof unfolds an update. -/

namespace Sys2Proof.Machine

-- One theorem at a time, so that a build with large thread stacks does not run out of threads.
set_option Elab.async false

/-! ## `returning`, `setSampleByte`, `onDmc`, `withEvents`, `withFetchWord` -/

@[simp] theorem State.returning_reg (s : State) (r : Result) : (s.returning r).reg = s.reg := rfl
@[simp] theorem State.returning_p1 (s : State) (r : Result) : (s.returning r).p1 = s.p1 := rfl
@[simp] theorem State.returning_p2 (s : State) (r : Result) : (s.returning r).p2 = s.p2 := rfl
@[simp] theorem State.returning_tri (s : State) (r : Result) : (s.returning r).tri = s.tri := rfl
@[simp] theorem State.returning_noi (s : State) (r : Result) : (s.returning r).noi = s.noi := rfl
@[simp] theorem State.returning_dmc (s : State) (r : Result) : (s.returning r).dmc = s.dmc := rfl
@[simp] theorem State.returning_fs (s : State) (r : Result) : (s.returning r).fs = s.fs := rfl
@[simp] theorem State.returning_mix (s : State) (r : Result) : (s.returning r).mix = s.mix := rfl
@[simp] theorem State.returning_phase2 (s : State) (r : Result) : (s.returning r).phase2 = s.phase2 := rfl
@[simp] theorem State.returning_fifo (s : State) (r : Result) : (s.returning r).fifo = s.fifo := rfl
@[simp] theorem State.returning_mem (s : State) (r : Result) : (s.returning r).mem = s.mem := rfl
@[simp] theorem State.returning_pending (s : State) (r : Result) : (s.returning r).pending = s.pending := rfl
@[simp] theorem State.returning_result (s : State) (r : Result) : (s.returning r).obs.result = r := rfl
@[simp] theorem State.returning_reads (s : State) (r : Result) : (s.returning r).obs.reads = s.obs.reads := rfl
@[simp] theorem State.returning_emitted (s : State) (r : Result) : (s.returning r).obs.emitted = s.obs.emitted := rfl
@[simp] theorem State.returning_delivered (s : State) (r : Result) : (s.returning r).obs.delivered = s.obs.delivered := rfl

@[simp] theorem State.setSampleByte_reg (s : State) (a : Addr) (b : Byte) : (s.setSampleByte a b).reg = s.reg := rfl
@[simp] theorem State.setSampleByte_p1 (s : State) (a : Addr) (b : Byte) : (s.setSampleByte a b).p1 = s.p1 := rfl
@[simp] theorem State.setSampleByte_p2 (s : State) (a : Addr) (b : Byte) : (s.setSampleByte a b).p2 = s.p2 := rfl
@[simp] theorem State.setSampleByte_tri (s : State) (a : Addr) (b : Byte) : (s.setSampleByte a b).tri = s.tri := rfl
@[simp] theorem State.setSampleByte_noi (s : State) (a : Addr) (b : Byte) : (s.setSampleByte a b).noi = s.noi := rfl
@[simp] theorem State.setSampleByte_dmc (s : State) (a : Addr) (b : Byte) : (s.setSampleByte a b).dmc = s.dmc := rfl
@[simp] theorem State.setSampleByte_fs (s : State) (a : Addr) (b : Byte) : (s.setSampleByte a b).fs = s.fs := rfl
@[simp] theorem State.setSampleByte_mix (s : State) (a : Addr) (b : Byte) : (s.setSampleByte a b).mix = s.mix := rfl
@[simp] theorem State.setSampleByte_phase2 (s : State) (a : Addr) (b : Byte) : (s.setSampleByte a b).phase2 = s.phase2 := rfl
@[simp] theorem State.setSampleByte_fifo (s : State) (a : Addr) (b : Byte) : (s.setSampleByte a b).fifo = s.fifo := rfl
@[simp] theorem State.setSampleByte_pending (s : State) (a : Addr) (b : Byte) : (s.setSampleByte a b).pending = s.pending := rfl
@[simp] theorem State.setSampleByte_obs (s : State) (a : Addr) (b : Byte) : (s.setSampleByte a b).obs = s.obs := rfl
@[simp] theorem State.setSampleByte_mem (s : State) (a : Addr) (b : Byte) : (s.setSampleByte a b).mem = Memory.write s.mem a b := rfl

@[simp] theorem State.onDmc_reg (s : State) (f : Latches → List Host.Cell → Dmc → Dmc × Option Addr) : (s.onDmc f).reg = s.reg := rfl
@[simp] theorem State.onDmc_p1 (s : State) (f : Latches → List Host.Cell → Dmc → Dmc × Option Addr) : (s.onDmc f).p1 = s.p1 := rfl
@[simp] theorem State.onDmc_p2 (s : State) (f : Latches → List Host.Cell → Dmc → Dmc × Option Addr) : (s.onDmc f).p2 = s.p2 := rfl
@[simp] theorem State.onDmc_tri (s : State) (f : Latches → List Host.Cell → Dmc → Dmc × Option Addr) : (s.onDmc f).tri = s.tri := rfl
@[simp] theorem State.onDmc_noi (s : State) (f : Latches → List Host.Cell → Dmc → Dmc × Option Addr) : (s.onDmc f).noi = s.noi := rfl
@[simp] theorem State.onDmc_fs (s : State) (f : Latches → List Host.Cell → Dmc → Dmc × Option Addr) : (s.onDmc f).fs = s.fs := rfl
@[simp] theorem State.onDmc_mix (s : State) (f : Latches → List Host.Cell → Dmc → Dmc × Option Addr) : (s.onDmc f).mix = s.mix := rfl
@[simp] theorem State.onDmc_phase2 (s : State) (f : Latches → List Host.Cell → Dmc → Dmc × Option Addr) : (s.onDmc f).phase2 = s.phase2 := rfl
@[simp] theorem State.onDmc_fifo (s : State) (f : Latches → List Host.Cell → Dmc → Dmc × Option Addr) : (s.onDmc f).fifo = s.fifo := rfl
@[simp] theorem State.onDmc_mem (s : State) (f : Latches → List Host.Cell → Dmc → Dmc × Option Addr) : (s.onDmc f).mem = s.mem := rfl
@[simp] theorem State.onDmc_pending (s : State) (f : Latches → List Host.Cell → Dmc → Dmc × Option Addr) : (s.onDmc f).pending = s.pending := rfl
@[simp] theorem State.onDmc_dmc (s : State) (f : Latches → List Host.Cell → Dmc → Dmc × Option Addr) : (s.onDmc f).dmc = (f s.reg.dmc s.mem s.dmc).1 := rfl
@[simp] theorem State.onDmc_reads (s : State) (f : Latches → List Host.Cell → Dmc → Dmc × Option Addr) : (s.onDmc f).obs.reads = s.obs.reads ++ (f s.reg.dmc s.mem s.dmc).2.toList := rfl
@[simp] theorem State.onDmc_result (s : State) (f : Latches → List Host.Cell → Dmc → Dmc × Option Addr) : (s.onDmc f).obs.result = s.obs.result := rfl
@[simp] theorem State.onDmc_emitted (s : State) (f : Latches → List Host.Cell → Dmc → Dmc × Option Addr) : (s.onDmc f).obs.emitted = s.obs.emitted := rfl
@[simp] theorem State.onDmc_delivered (s : State) (f : Latches → List Host.Cell → Dmc → Dmc × Option Addr) : (s.onDmc f).obs.delivered = s.obs.delivered := rfl

@[simp] theorem State.withEvents_reg (s : State) (es : List Event) : (s.withEvents es).reg = s.reg := rfl
@[simp] theorem State.withEvents_p1 (s : State) (es : List Event) : (s.withEvents es).p1 = s.p1 := rfl
@[simp] theorem State.withEvents_p2 (s : State) (es : List Event) : (s.withEvents es).p2 = s.p2 := rfl
@[simp] theorem State.withEvents_tri (s : State) (es : List Event) : (s.withEvents es).tri = s.tri := rfl
@[simp] theorem State.withEvents_noi (s : State) (es : List Event) : (s.withEvents es).noi = s.noi := rfl
@[simp] theorem State.withEvents_dmc (s : State) (es : List Event) : (s.withEvents es).dmc = s.dmc := rfl
@[simp] theorem State.withEvents_fs (s : State) (es : List Event) : (s.withEvents es).fs = s.fs := rfl
@[simp] theorem State.withEvents_mix (s : State) (es : List Event) : (s.withEvents es).mix = s.mix := rfl
@[simp] theorem State.withEvents_phase2 (s : State) (es : List Event) : (s.withEvents es).phase2 = s.phase2 := rfl
@[simp] theorem State.withEvents_fifo (s : State) (es : List Event) : (s.withEvents es).fifo = s.fifo := rfl
@[simp] theorem State.withEvents_mem (s : State) (es : List Event) : (s.withEvents es).mem = s.mem := rfl
@[simp] theorem State.withEvents_obs (s : State) (es : List Event) : (s.withEvents es).obs = s.obs := rfl
@[simp] theorem State.withEvents_pending (s : State) (es : List Event) : (s.withEvents es).pending = es := rfl

@[simp] theorem State.withFetchWord_reg (s : State) (nbits w : Nat) : (s.withFetchWord nbits w).reg = s.reg := rfl
@[simp] theorem State.withFetchWord_p1 (s : State) (nbits w : Nat) : (s.withFetchWord nbits w).p1 = s.p1 := rfl
@[simp] theorem State.withFetchWord_p2 (s : State) (nbits w : Nat) : (s.withFetchWord nbits w).p2 = s.p2 := rfl
@[simp] theorem State.withFetchWord_tri (s : State) (nbits w : Nat) : (s.withFetchWord nbits w).tri = s.tri := rfl
@[simp] theorem State.withFetchWord_noi (s : State) (nbits w : Nat) : (s.withFetchWord nbits w).noi = s.noi := rfl
@[simp] theorem State.withFetchWord_dmc (s : State) (nbits w : Nat) : (s.withFetchWord nbits w).dmc = s.dmc := rfl
@[simp] theorem State.withFetchWord_fs (s : State) (nbits w : Nat) : (s.withFetchWord nbits w).fs = s.fs := rfl
@[simp] theorem State.withFetchWord_mix (s : State) (nbits w : Nat) : (s.withFetchWord nbits w).mix = s.mix := rfl
@[simp] theorem State.withFetchWord_phase2 (s : State) (nbits w : Nat) : (s.withFetchWord nbits w).phase2 = s.phase2 := rfl
@[simp] theorem State.withFetchWord_fifo (s : State) (nbits w : Nat) : (s.withFetchWord nbits w).fifo = s.fifo := rfl
@[simp] theorem State.withFetchWord_mem (s : State) (nbits w : Nat) : (s.withFetchWord nbits w).mem = s.mem := rfl
@[simp] theorem State.withFetchWord_obs (s : State) (nbits w : Nat) : (s.withFetchWord nbits w).obs = s.obs := rfl
@[simp] theorem State.withFetchWord_pending (s : State) (nbits w : Nat) : (s.withFetchWord nbits w).pending = .write (BitVec.ofNat 13 (w % 2 ^ nbits)) :: s.pending := rfl

/-! ## `setTimer` -/

@[simp] theorem State.setTimer_reg (s : State) (i : TimerId) (v : Timer i.width) : (s.setTimer i v).reg = s.reg := by cases i <;> rfl
@[simp] theorem State.setTimer_fs (s : State) (i : TimerId) (v : Timer i.width) : (s.setTimer i v).fs = s.fs := by cases i <;> rfl
@[simp] theorem State.setTimer_mix (s : State) (i : TimerId) (v : Timer i.width) : (s.setTimer i v).mix = s.mix := by cases i <;> rfl
@[simp] theorem State.setTimer_phase2 (s : State) (i : TimerId) (v : Timer i.width) : (s.setTimer i v).phase2 = s.phase2 := by cases i <;> rfl
@[simp] theorem State.setTimer_fifo (s : State) (i : TimerId) (v : Timer i.width) : (s.setTimer i v).fifo = s.fifo := by cases i <;> rfl
@[simp] theorem State.setTimer_mem (s : State) (i : TimerId) (v : Timer i.width) : (s.setTimer i v).mem = s.mem := by cases i <;> rfl
@[simp] theorem State.setTimer_pending (s : State) (i : TimerId) (v : Timer i.width) : (s.setTimer i v).pending = s.pending := by cases i <;> rfl
@[simp] theorem State.setTimer_obs (s : State) (i : TimerId) (v : Timer i.width) : (s.setTimer i v).obs = s.obs := by cases i <;> rfl
@[simp] theorem State.timer_setTimer (s : State) (i : TimerId) (v : Timer i.width) : (s.setTimer i v).timer i = v := by cases i <;> rfl
@[simp] theorem State.setTimer_timer (s : State) (i : TimerId) : s.setTimer i (s.timer i) = s := by cases i <;> rfl

/-! ## `setSplitTimer` -/

@[simp] theorem State.setSplitTimer_reg (s : State) (i : SplitTimerId) (v : Timer 11) : (s.setSplitTimer i v).reg = s.reg := by cases i <;> rfl
@[simp] theorem State.setSplitTimer_noi (s : State) (i : SplitTimerId) (v : Timer 11) : (s.setSplitTimer i v).noi = s.noi := by cases i <;> rfl
@[simp] theorem State.setSplitTimer_dmc (s : State) (i : SplitTimerId) (v : Timer 11) : (s.setSplitTimer i v).dmc = s.dmc := by cases i <;> rfl
@[simp] theorem State.setSplitTimer_fs (s : State) (i : SplitTimerId) (v : Timer 11) : (s.setSplitTimer i v).fs = s.fs := by cases i <;> rfl
@[simp] theorem State.setSplitTimer_mix (s : State) (i : SplitTimerId) (v : Timer 11) : (s.setSplitTimer i v).mix = s.mix := by cases i <;> rfl
@[simp] theorem State.setSplitTimer_phase2 (s : State) (i : SplitTimerId) (v : Timer 11) : (s.setSplitTimer i v).phase2 = s.phase2 := by cases i <;> rfl
@[simp] theorem State.setSplitTimer_fifo (s : State) (i : SplitTimerId) (v : Timer 11) : (s.setSplitTimer i v).fifo = s.fifo := by cases i <;> rfl
@[simp] theorem State.setSplitTimer_mem (s : State) (i : SplitTimerId) (v : Timer 11) : (s.setSplitTimer i v).mem = s.mem := by cases i <;> rfl
@[simp] theorem State.setSplitTimer_pending (s : State) (i : SplitTimerId) (v : Timer 11) : (s.setSplitTimer i v).pending = s.pending := by cases i <;> rfl
@[simp] theorem State.setSplitTimer_obs (s : State) (i : SplitTimerId) (v : Timer 11) : (s.setSplitTimer i v).obs = s.obs := by cases i <;> rfl
@[simp] theorem State.splitTimer_setSplitTimer (s : State) (i : SplitTimerId) (v : Timer 11) : (s.setSplitTimer i v).splitTimer i = v := by cases i <;> rfl
@[simp] theorem State.setSplitTimer_splitTimer (s : State) (i : SplitTimerId) : s.setSplitTimer i (s.splitTimer i) = s := by cases i <;> rfl

/-! ## `setLen` -/

@[simp] theorem State.setLen_reg (s : State) (i : LengthId) (v : LengthCounter) : (s.setLen i v).reg = s.reg := by cases i <;> rfl
@[simp] theorem State.setLen_dmc (s : State) (i : LengthId) (v : LengthCounter) : (s.setLen i v).dmc = s.dmc := by cases i <;> rfl
@[simp] theorem State.setLen_fs (s : State) (i : LengthId) (v : LengthCounter) : (s.setLen i v).fs = s.fs := by cases i <;> rfl
@[simp] theorem State.setLen_mix (s : State) (i : LengthId) (v : LengthCounter) : (s.setLen i v).mix = s.mix := by cases i <;> rfl
@[simp] theorem State.setLen_phase2 (s : State) (i : LengthId) (v : LengthCounter) : (s.setLen i v).phase2 = s.phase2 := by cases i <;> rfl
@[simp] theorem State.setLen_fifo (s : State) (i : LengthId) (v : LengthCounter) : (s.setLen i v).fifo = s.fifo := by cases i <;> rfl
@[simp] theorem State.setLen_mem (s : State) (i : LengthId) (v : LengthCounter) : (s.setLen i v).mem = s.mem := by cases i <;> rfl
@[simp] theorem State.setLen_pending (s : State) (i : LengthId) (v : LengthCounter) : (s.setLen i v).pending = s.pending := by cases i <;> rfl
@[simp] theorem State.setLen_obs (s : State) (i : LengthId) (v : LengthCounter) : (s.setLen i v).obs = s.obs := by cases i <;> rfl
@[simp] theorem State.len_setLen (s : State) (i : LengthId) (v : LengthCounter) : (s.setLen i v).len i = v := by cases i <;> rfl
@[simp] theorem State.setLen_len (s : State) (i : LengthId) : s.setLen i (s.len i) = s := by cases i <;> rfl

/-! ## `setEnv` -/

@[simp] theorem State.setEnv_reg (s : State) (i : EnvelopeId) (v : Envelope) : (s.setEnv i v).reg = s.reg := by cases i <;> rfl
@[simp] theorem State.setEnv_tri (s : State) (i : EnvelopeId) (v : Envelope) : (s.setEnv i v).tri = s.tri := by cases i <;> rfl
@[simp] theorem State.setEnv_dmc (s : State) (i : EnvelopeId) (v : Envelope) : (s.setEnv i v).dmc = s.dmc := by cases i <;> rfl
@[simp] theorem State.setEnv_fs (s : State) (i : EnvelopeId) (v : Envelope) : (s.setEnv i v).fs = s.fs := by cases i <;> rfl
@[simp] theorem State.setEnv_mix (s : State) (i : EnvelopeId) (v : Envelope) : (s.setEnv i v).mix = s.mix := by cases i <;> rfl
@[simp] theorem State.setEnv_phase2 (s : State) (i : EnvelopeId) (v : Envelope) : (s.setEnv i v).phase2 = s.phase2 := by cases i <;> rfl
@[simp] theorem State.setEnv_fifo (s : State) (i : EnvelopeId) (v : Envelope) : (s.setEnv i v).fifo = s.fifo := by cases i <;> rfl
@[simp] theorem State.setEnv_mem (s : State) (i : EnvelopeId) (v : Envelope) : (s.setEnv i v).mem = s.mem := by cases i <;> rfl
@[simp] theorem State.setEnv_pending (s : State) (i : EnvelopeId) (v : Envelope) : (s.setEnv i v).pending = s.pending := by cases i <;> rfl
@[simp] theorem State.setEnv_obs (s : State) (i : EnvelopeId) (v : Envelope) : (s.setEnv i v).obs = s.obs := by cases i <;> rfl
@[simp] theorem State.env_setEnv (s : State) (i : EnvelopeId) (v : Envelope) : (s.setEnv i v).env i = v := by cases i <;> rfl
@[simp] theorem State.setEnv_env (s : State) (i : EnvelopeId) : s.setEnv i (s.env i) = s := by cases i <;> rfl

/-! ## `setPulse` -/

@[simp] theorem State.setPulse_reg (s : State) (i : PulseId) (v : Pulse) : (s.setPulse i v).reg = s.reg := by cases i <;> rfl
@[simp] theorem State.setPulse_tri (s : State) (i : PulseId) (v : Pulse) : (s.setPulse i v).tri = s.tri := by cases i <;> rfl
@[simp] theorem State.setPulse_noi (s : State) (i : PulseId) (v : Pulse) : (s.setPulse i v).noi = s.noi := by cases i <;> rfl
@[simp] theorem State.setPulse_dmc (s : State) (i : PulseId) (v : Pulse) : (s.setPulse i v).dmc = s.dmc := by cases i <;> rfl
@[simp] theorem State.setPulse_fs (s : State) (i : PulseId) (v : Pulse) : (s.setPulse i v).fs = s.fs := by cases i <;> rfl
@[simp] theorem State.setPulse_mix (s : State) (i : PulseId) (v : Pulse) : (s.setPulse i v).mix = s.mix := by cases i <;> rfl
@[simp] theorem State.setPulse_phase2 (s : State) (i : PulseId) (v : Pulse) : (s.setPulse i v).phase2 = s.phase2 := by cases i <;> rfl
@[simp] theorem State.setPulse_fifo (s : State) (i : PulseId) (v : Pulse) : (s.setPulse i v).fifo = s.fifo := by cases i <;> rfl
@[simp] theorem State.setPulse_mem (s : State) (i : PulseId) (v : Pulse) : (s.setPulse i v).mem = s.mem := by cases i <;> rfl
@[simp] theorem State.setPulse_pending (s : State) (i : PulseId) (v : Pulse) : (s.setPulse i v).pending = s.pending := by cases i <;> rfl
@[simp] theorem State.setPulse_obs (s : State) (i : PulseId) (v : Pulse) : (s.setPulse i v).obs = s.obs := by cases i <;> rfl
@[simp] theorem State.pulse_setPulse (s : State) (i : PulseId) (v : Pulse) : (s.setPulse i v).pulse i = v := by cases i <;> rfl
@[simp] theorem State.setPulse_pulse (s : State) (i : PulseId) : s.setPulse i (s.pulse i) = s := by cases i <;> rfl

/-! ## `setDivider` -/

@[simp] theorem State.setDivider_reg (s : State) (d : DividerId) (v : Divider d.width) :
    (s.setDivider d v).reg = s.reg := by cases d <;> simp [State.setDivider]
@[simp] theorem State.setDivider_mix (s : State) (d : DividerId) (v : Divider d.width) :
    (s.setDivider d v).mix = s.mix := by cases d <;> simp [State.setDivider]
@[simp] theorem State.setDivider_phase2 (s : State) (d : DividerId) (v : Divider d.width) :
    (s.setDivider d v).phase2 = s.phase2 := by cases d <;> simp [State.setDivider]
@[simp] theorem State.setDivider_fifo (s : State) (d : DividerId) (v : Divider d.width) :
    (s.setDivider d v).fifo = s.fifo := by cases d <;> simp [State.setDivider]
@[simp] theorem State.setDivider_mem (s : State) (d : DividerId) (v : Divider d.width) :
    (s.setDivider d v).mem = s.mem := by cases d <;> simp [State.setDivider]
@[simp] theorem State.setDivider_pending (s : State) (d : DividerId) (v : Divider d.width) :
    (s.setDivider d v).pending = s.pending := by cases d <;> simp [State.setDivider]
@[simp] theorem State.setDivider_obs (s : State) (d : DividerId) (v : Divider d.width) :
    (s.setDivider d v).obs = s.obs := by cases d <;> simp [State.setDivider]

@[simp] theorem State.divider_setDivider (s : State) (d : DividerId) (v : Divider d.width) :
    (s.setDivider d v).divider d = v := by cases d <;> simp [State.setDivider, State.divider]

/-! ## The events -/

theorem State.fetch_nil (s : State) (h : s.pending = []) : s.fetch = none := by simp [State.fetch, h]

theorem State.fetch_cons (s : State) (e : Event) (rest : List Event) (h : s.pending = e :: rest) :
    s.fetch = some (decodeEvent e, { s with pending := rest }) := by simp [State.fetch, h]

/-- Everything `step` can do: stand still with no event issued, or run the next event's operation. -/
theorem step_cases {s : State} {o : Host.Outcome State Fault Refusal} (h : step s = o) :
    (s.pending = [] ∧ o = .next s) ∨
    ∃ e rest, s.pending = e :: rest ∧ o = exec (decodeEvent e) { s with pending := rest } := by
  cases hp : s.pending with
  | nil => exact .inl ⟨rfl, by simpa [step, State.fetch_nil s hp] using h.symm⟩
  | cons e rest => exact .inr ⟨e, rest, rfl, by simpa [step, State.fetch_cons s e rest hp] using h.symm⟩

end Sys2Proof.Machine
end

