-- ==== Sys2Proof/Laws/Memory.lean ====
section
/-! SUPPORT. The laws of the sample memory: every memory operation keeps the canonical form, a read after a write
gives the byte written, and a write leaves every other address alone. -/

namespace Sys2Proof.Machine

-- One theorem at a time, so that a build with large thread stacks does not run out of threads.
set_option Elab.async false

theorem Memory.wfFrom_cons {lo k : Nat} {b : Byte} {m : List Host.Cell} :
    Memory.wfFrom lo ((k, b) :: m) = true ↔
      lo ≤ k ∧ k < 0x10000 ∧ b ≠ Memory.unlisted ∧ Memory.wfFrom (k + 1) m = true := by
  simp [Memory.wfFrom, and_assoc]

theorem Memory.wfFrom_mono {lo lo' : Nat} (h : lo' ≤ lo) {m : List Host.Cell}
    (hm : Memory.wfFrom lo m = true) : Memory.wfFrom lo' m = true := by
  cases m with
  | nil => rfl
  | cons c m =>
    obtain ⟨k, b⟩ := c
    rw [Memory.wfFrom_cons] at hm ⊢
    exact ⟨h.trans hm.1, hm.2⟩

/-- Setting a cell keeps the form, from any address at or below the cell's. -/
theorem Memory.wfFrom_set {m : List Host.Cell} {lo k : Nat} (b : Byte) (hlo : lo ≤ k) (hk : k < 0x10000)
    (hm : Memory.wfFrom lo m = true) : Memory.wfFrom lo (Memory.set m k b) = true := by
  induction m generalizing lo with
  | nil =>
    simp only [Memory.set]
    split
    · rfl
    · rename_i hb
      rw [Memory.wfFrom_cons]
      exact ⟨hlo, hk, hb, rfl⟩
  | cons c m ih =>
    obtain ⟨k', b'⟩ := c
    have hm' := hm
    rw [Memory.wfFrom_cons] at hm
    obtain ⟨h1, h2, h3, h4⟩ := hm
    simp only [Memory.set]
    split
    · rename_i hlt
      split
      · exact hm'
      · rename_i hb
        rw [Memory.wfFrom_cons]
        refine ⟨hlo, hk, hb, ?_⟩
        rw [Memory.wfFrom_cons]
        exact ⟨hlt, h2, h3, h4⟩
    · split
      · rename_i heq
        split
        · exact Memory.wfFrom_mono (by omega) h4
        · rename_i hb
          rw [Memory.wfFrom_cons]
          exact ⟨hlo, hk, hb, heq ▸ h4⟩
      · rw [Memory.wfFrom_cons]
        exact ⟨h1, h2, h3, ih (by omega) h4⟩

/-- A write keeps the canonical form. -/
theorem Memory.wf_write {m : List Host.Cell} (a : Addr) (b : Byte) (h : Memory.wf m = true) :
    Memory.wf (Memory.write m a b) = true :=
  Memory.wfFrom_set b (Nat.zero_le _) a.isLt h

/-- The memory at reset is in canonical form. -/
theorem Memory.wf_reset : Memory.wf State.reset.mem = true := rfl

/-- No listed address lies below the bound of the form. -/
theorem Memory.lookup_below {m : List Host.Cell} {lo k : Nat} (hm : Memory.wfFrom lo m = true) (hk : k < lo) :
    m.lookup k = none := by
  induction m generalizing lo with
  | nil => rfl
  | cons c m ih =>
    obtain ⟨k', b'⟩ := c
    rw [Memory.wfFrom_cons] at hm
    have hne : ¬ (k = k') := by omega
    simp only [List.lookup, beq_eq_false_iff_ne.mpr hne]
    exact ih hm.2.2.2 (by omega)

/-- What one cell reads as after another (or the same) was set. -/
theorem Memory.lookup_set {m : List Host.Cell} {lo : Nat} (k k' : Nat) (b : Byte)
    (hm : Memory.wfFrom lo m = true) :
    ((Memory.set m k b).lookup k').getD Memory.unlisted =
      if k' = k then b else (m.lookup k').getD Memory.unlisted := by
  induction m generalizing lo with
  | nil =>
    simp only [Memory.set]
    by_cases hb : b = Memory.unlisted <;> by_cases hk : k' = k <;> simp [List.lookup, hb, hk]
    · simp [beq_eq_false_iff_ne.mpr hk]
  | cons c m ih =>
    obtain ⟨k₀, b₀⟩ := c
    rw [Memory.wfFrom_cons] at hm
    obtain ⟨h1, h2, h3, h4⟩ := hm
    have hbelow := @Memory.lookup_below m (k₀ + 1)
    simp only [Memory.set]
    split
    · rename_i hlt
      by_cases hb : b = Memory.unlisted
      · rw [if_pos hb]
        by_cases hk : k' = k
        · subst hk
          have hne : ¬ (k' = k₀) := by omega
          simp [List.lookup, beq_eq_false_iff_ne.mpr hne, hbelow h4 (show k' < k₀ + 1 by omega), hb]
        · simp [hk]
      · rw [if_neg hb]
        by_cases hk : k' = k
        · simp [List.lookup, hk]
        · simp [List.lookup, beq_eq_false_iff_ne.mpr hk, hk]
    · split
      · rename_i heq
        subst heq
        by_cases hb : b = Memory.unlisted
        · rw [if_pos hb]
          by_cases hk : k' = k
          · subst hk
            simp [hbelow h4 (Nat.lt_succ_self k'), hb]
          · simp [List.lookup, beq_eq_false_iff_ne.mpr hk, hk]
        · rw [if_neg hb]
          by_cases hk : k' = k
          · simp [List.lookup, hk]
          · simp [List.lookup, beq_eq_false_iff_ne.mpr hk, hk]
      · rename_i hnlt hne
        by_cases hk0 : k' = k₀
        · subst hk0
          have : ¬ (k' = k) := fun h => hne h.symm
          simp [List.lookup, this]
        · simp only [List.lookup, beq_eq_false_iff_ne.mpr hk0]
          exact ih h4

/-- Reading after a write: the byte written there, every other address as before. -/
theorem Memory.read_write {m : List Host.Cell} (h : Memory.wf m = true) (a a' : Addr) (b : Byte) :
    Memory.read (Memory.write m a b) a' = if a' = a then b else Memory.read m a' := by
  simp only [Memory.read, Memory.write, Memory.lookup_set a.toNat a'.toNat b h, BitVec.toNat_inj]

end Sys2Proof.Machine
end

