-- ==== Sys2Proof/Laws/Ops.lean ====
section
/-! SUPPORT. What each shared operation of Machine/ can do, said once: its cases, and field by field what it leaves
alone.  Proofs cite these lemmas and do not unfold the operations. -/

namespace Sys2Proof.Machine

-- One theorem at a time, so that a build with large thread stacks does not run out of threads.
set_option Elab.async false

/-! ## Divider and Timer (R143, R146, R147, R150) -/

theorem Divider.clock_fires {w : Nat} {d : Divider w} (h : d.counter = 0) :
    d.clock = (⟨d.period, d.period⟩, true) := by simp only [Divider.clock, if_pos h]

theorem Divider.clock_counts {w : Nat} {d : Divider w} (h : d.counter ≠ 0) :
    d.clock = (⟨d.period, d.counter - 1⟩, false) := by simp only [Divider.clock, if_neg h]

@[simp] theorem Divider.clock_period {w : Nat} (d : Divider w) : d.clock.1.period = d.period := by
  simp only [Divider.clock]; split <;> rfl

theorem Timer.clock_gated {w : Nat} {t : Timer w} {m : Nat} (h : t.div.period.toNat < m) :
    t.clock m = (t, false) := by simp [Timer.clock, h]

theorem Timer.clock_open {w : Nat} {t : Timer w} {m : Nat} (h : m ≤ t.div.period.toNat) :
    t.clock m = (⟨t.div.clock.1⟩, t.div.clock.2) := by simp [Timer.clock, Nat.not_lt.mpr h]

@[simp] theorem Timer.clock_period {w : Nat} (t : Timer w) (m : Nat) :
    (t.clock m).1.div.period = t.div.period := by
  simp only [Timer.clock]; split <;> simp

/-- The low part of a split period write: the high 3 bits are kept. -/
theorem Timer.setPeriodLow8_eq (t : Timer 11) (v : BitVec 8) :
    t.setPeriodLow8 v = ⟨⟨t.div.period.extractLsb' 8 3 ++ v, t.div.counter⟩⟩ := by
  have h : ((t.div.period &&& 0x700) ||| v.setWidth 11) = t.div.period.extractLsb' 8 3 ++ v := by
    generalize t.div.period = p
    apply BitVec.eq_of_getLsbD_eq
    intro i hi
    have : i = 0 ∨ i = 1 ∨ i = 2 ∨ i = 3 ∨ i = 4 ∨ i = 5 ∨ i = 6 ∨ i = 7 ∨ i = 8 ∨ i = 9 ∨ i = 10 := by omega
    rcases this with h | h | h | h | h | h | h | h | h | h | h <;> subst h <;>
      refine Eq.trans ?_ BitVec.getLsbD_append.symm <;> simp
  simp only [Timer.setPeriodLow8, Divider.setPeriod, h]

/-- The high part of a split period write: the low 8 bits are kept and the counter is reset to the whole period. -/
theorem Timer.setPeriodHigh3_eq (t : Timer 11) (v : BitVec 3) :
    t.setPeriodHigh3 v =
      ⟨⟨v ++ t.div.period.extractLsb' 0 8, v ++ t.div.period.extractLsb' 0 8⟩⟩ := by
  have h : ((v.setWidth 11 <<< 8) ||| (t.div.period &&& 0x0FF)) = v ++ t.div.period.extractLsb' 0 8 := by
    generalize t.div.period = p
    apply BitVec.eq_of_getLsbD_eq
    intro i hi
    have : i = 0 ∨ i = 1 ∨ i = 2 ∨ i = 3 ∨ i = 4 ∨ i = 5 ∨ i = 6 ∨ i = 7 ∨ i = 8 ∨ i = 9 ∨ i = 10 := by omega
    rcases this with h | h | h | h | h | h | h | h | h | h | h <;> subst h <;>
      refine Eq.trans ?_ BitVec.getLsbD_append.symm <;> simp
  simp only [Timer.setPeriodHigh3, Divider.setPeriod, Divider.resetCounter, h]

/-! ## LengthCounter (R161 to R164) -/

theorem LengthCounter.setEnabled_eq (l : LengthCounter) (e : Bool) :
    l.setEnabled e = { l with enabled := e, counter := if e then l.counter else 0 } := by
  cases e <;> rfl

theorem LengthCounter.load_eq (l : LengthCounter) (i : BitVec 5) :
    l.load i = { l with counter := if l.enabled then lengthEntry i else l.counter } := by
  obtain ⟨e, h, c⟩ := l
  cases e <;> rfl

theorem LengthCounter.clock_counts {l : LengthCounter} (h : l.halt = false) (hc : l.counter ≠ 0) :
    l.clock = { l with counter := l.counter - 1 } := if_pos ⟨h, hc⟩

theorem LengthCounter.clock_stands {l : LengthCounter} (h : l.halt = true ∨ l.counter = 0) : l.clock = l := by
  refine if_neg fun k => ?_
  rcases h with h | h
  · simp [h] at k
  · exact k.2 h

@[simp] theorem LengthCounter.clock_halt (l : LengthCounter) : l.clock.halt = l.halt := by
  simp only [LengthCounter.clock]; split <;> rfl
@[simp] theorem LengthCounter.clock_enabled (l : LengthCounter) : l.clock.enabled = l.enabled := by
  simp only [LengthCounter.clock]; split <;> rfl

/-! ## VolumeEnvelope (R173) -/

theorem Envelope.clock_restarts {e : Envelope} (h : e.restart = true) :
    e.clock = { e with restart := false, counter := 15, div := ⟨e.div.period, e.div.period⟩ } := by
  simp [Envelope.clock, h, Divider.resetCounter]

theorem Envelope.clock_waits {e : Envelope} (h : e.restart = false) (hd : e.div.counter ≠ 0) :
    e.clock = { e with div := ⟨e.div.period, e.div.counter - 1⟩ } := by
  simp [Envelope.clock, h, Divider.clock_counts hd]

theorem Envelope.clock_decays {e : Envelope} (h : e.restart = false) (hd : e.div.counter = 0) :
    e.clock = { e with
      div := ⟨e.div.period, e.div.period⟩,
      counter := if e.counter ≠ 0 then e.counter - 1 else if e.loop then 15 else 0 } := by
  simp only [Envelope.clock, h, Divider.clock_fires hd, Envelope.decay]
  by_cases hc : e.counter = 0 <;> cases hl : e.loop <;>
    simp only [hc, ne_eq, not_true_eq_false, not_false_eq_true, if_true, if_false, Bool.false_eq_true]


@[simp] theorem Envelope.clock_loop (e : Envelope) : e.clock.loop = e.loop := by
  simp only [Envelope.clock, Envelope.decay]; repeat' split
  all_goals rfl
@[simp] theorem Envelope.clock_constantMode (e : Envelope) : e.clock.constantMode = e.constantMode := by
  simp only [Envelope.clock, Envelope.decay]; repeat' split
  all_goals rfl
@[simp] theorem Envelope.clock_constantLevel (e : Envelope) : e.clock.constantLevel = e.constantLevel := by
  simp only [Envelope.clock, Envelope.decay]; repeat' split
  all_goals rfl
@[simp] theorem Envelope.clock_period (e : Envelope) : e.clock.div.period = e.div.period := by
  simp only [Envelope.clock, Envelope.decay]; repeat' split
  all_goals simp [Divider.resetCounter]

/-! ## SweepUnit (R182, R184) -/

/-- A retune writes the target into the period, or does nothing. -/
theorem Pulse.retune_cases (p : Pulse) (x : PulseId) :
    (p.sweep.enabled = true ∧ p.sweepSilence x = false ∧
      p.retune x = { p with timer := ⟨⟨BitVec.ofNat 11 (p.sweepTarget x), p.timer.div.counter⟩⟩ }) ∨
    ((p.sweep.enabled = false ∨ p.sweepSilence x = true) ∧ p.retune x = p) := by
  by_cases h : p.sweep.enabled = true ∧ p.sweepSilence x = false
  · exact .inl ⟨h.1, h.2, by simp [Pulse.retune, h.1, h.2, Timer.setPeriod, Divider.setPeriod]⟩
  · refine .inr ⟨?_, by simp only [Pulse.retune]; rw [if_neg]; exact fun k => h ⟨k.1, k.2.1⟩⟩
    by_cases he : p.sweep.enabled = true
    · exact .inr (by simpa [he] using h)
    · exact .inl (by simpa using he)


@[simp] theorem Pulse.retune_len (p : Pulse) (x : PulseId) : (p.retune x).len = p.len := by
  simp only [Pulse.retune]; split <;> rfl
@[simp] theorem Pulse.retune_env (p : Pulse) (x : PulseId) : (p.retune x).env = p.env := by
  simp only [Pulse.retune]; split <;> rfl
@[simp] theorem Pulse.retune_sweep (p : Pulse) (x : PulseId) : (p.retune x).sweep = p.sweep := by
  simp only [Pulse.retune]; split <;> rfl
@[simp] theorem Pulse.retune_duty (p : Pulse) (x : PulseId) : (p.retune x).duty = p.duty := by
  simp only [Pulse.retune]; split <;> rfl
@[simp] theorem Pulse.retune_phase (p : Pulse) (x : PulseId) : (p.retune x).phase = p.phase := by
  simp only [Pulse.retune]; split <;> rfl

/-- The sweep clock between two firings, with and without a pending reload. -/
theorem Pulse.sweepClock_waits {p : Pulse} {x : PulseId} (h : p.sweep.div.counter ≠ 0) :
    p.sweepClock x = { p with sweep := { p.sweep with
      reload := false,
      div := ⟨p.sweep.div.period, if p.sweep.reload then p.sweep.div.period else p.sweep.div.counter - 1⟩ } } := by
  cases hr : p.sweep.reload <;>
    simp [Pulse.sweepClock, Pulse.sweepAdvance, Divider.clock_counts h, hr, SweepUnit.finishReload,
      Divider.resetCounter]

/-- A retune reads and writes nothing of the sweep unit's divider. -/
theorem Pulse.retune_setDiv (p : Pulse) (x : PulseId) (d : Divider 3) :
    ({ p with sweep.div := d } : Pulse).retune x = { p.retune x with sweep := { p.sweep with div := d } } := by
  by_cases h : p.sweep.enabled = true ∧ p.sweepSilence x = false ∧
      (p.sweep.shift ≠ 0 ∨ Config.sweepShift0Guard = false)
  · exact (if_pos h).trans (by rw [Pulse.retune, if_pos h]; rfl)
  · exact (if_neg h).trans (by rw [Pulse.retune, if_neg h])

/-- The sweep clock that fires: a retune on the period as it stands, and the divider reloaded. -/
theorem Pulse.sweepClock_fires {p : Pulse} {x : PulseId} (h : p.sweep.div.counter = 0) :
    p.sweepClock x = { p.retune x with sweep := { p.sweep with
      reload := false, div := ⟨p.sweep.div.period, p.sweep.div.period⟩ } } := by
  obtain ⟨tm, ln, ev, ⟨en, ng, rl, sh, ⟨dp, dc⟩⟩, du, ph⟩ := p
  obtain rfl : dc = 0 := h
  have hd := fun rl => Pulse.retune_setDiv ⟨tm, ln, ev, ⟨en, ng, rl, sh, ⟨dp, 0⟩⟩, du, ph⟩ x ⟨dp, dp⟩
  cases rl <;>
    simp only [Pulse.sweepClock, Pulse.sweepAdvance, Divider.clock_fires, if_true, hd, Bool.false_eq_true,
      if_false, SweepUnit.finishReload, Divider.resetCounter]


@[simp] theorem Pulse.sweepClock_len (p : Pulse) (x : PulseId) : (p.sweepClock x).len = p.len := by
  by_cases h : p.sweep.div.counter = 0
  · simp [Pulse.sweepClock_fires h]
  · simp [Pulse.sweepClock_waits h]
@[simp] theorem Pulse.sweepClock_env (p : Pulse) (x : PulseId) : (p.sweepClock x).env = p.env := by
  by_cases h : p.sweep.div.counter = 0
  · simp [Pulse.sweepClock_fires h]
  · simp [Pulse.sweepClock_waits h]
@[simp] theorem Pulse.sweepClock_duty (p : Pulse) (x : PulseId) : (p.sweepClock x).duty = p.duty := by
  by_cases h : p.sweep.div.counter = 0
  · simp [Pulse.sweepClock_fires h]
  · simp [Pulse.sweepClock_waits h]
@[simp] theorem Pulse.sweepClock_phase (p : Pulse) (x : PulseId) : (p.sweepClock x).phase = p.phase := by
  by_cases h : p.sweep.div.counter = 0
  · simp [Pulse.sweepClock_fires h]
  · simp [Pulse.sweepClock_waits h]

/-! ## Linear counter (R206) -/

theorem Triangle.linearClock_eq (t : Triangle) :
    t.linearClock = { t with
      lin := if t.reloadFlag then t.reloadValue else if t.lin ≠ 0 then t.lin - 1 else 0,
      reloadFlag := t.reloadFlag && t.control } := by
  simp only [Triangle.linearClock, Triangle.linStep]
  obtain ⟨tm, l, c, rv, lin, rf, ph⟩ := t
  by_cases hl : lin = 0 <;> cases c <;> cases rf <;>
    simp only [hl, ne_eq, not_true_eq_false, not_false_eq_true, if_true, if_false, Bool.false_eq_true,
      Bool.and_true, Bool.and_false]

/-! ## Sample playback (R219 to R222) -/

theorem Dmc.fill_idle {r : Latches} {m : List Host.Cell} {d : Dmc} (h : d.bufFull = true ∨ d.remaining = 0) :
    d.fill r m = (d, none) := by
  rcases h with h | h <;> simp [Dmc.fill, h]

theorem Dmc.fill_fetches {r : Latches} {m : List Host.Cell} {d : Dmc} (hb : d.bufFull = false)
    (hr : d.remaining ≠ 0) : d.fill r m =
      (if d.remaining = 1 then (d.fetchByte m).endSample r else d.fetchByte m, some d.curAddr) := by
  have h : (d.fetchByte m).remaining = 0 ↔ d.remaining = 1 := by
    simp only [Dmc.fetchByte]; constructor <;> intro h <;> bv_omega
  simp only [Dmc.fill, if_pos (show d.bufFull = false ∧ d.remaining ≠ 0 from ⟨hb, hr⟩), h]

theorem Dmc.startOutputCycle_empty {r : Latches} {m : List Host.Cell} {d : Dmc} (h : d.bufFull = false) :
    Dmc.startOutputCycle r m d = ({ d with bits := 8, silence := true }, none) := by
  simp [Dmc.startOutputCycle, h]

theorem Dmc.startOutputCycle_full {r : Latches} {m : List Host.Cell} {d : Dmc} (h : d.bufFull = true) :
    Dmc.startOutputCycle r m d =
      Dmc.fill r m { d with bits := 8, silence := false, shift := d.buf, bufFull := false } := by
  simp [Dmc.startOutputCycle, h]

/-- A level step moves the level by 2 or not at all, and nothing else. -/
theorem Dmc.stepLevel_cases (b : Bool) (d : Dmc) :
    (b = true ∧ d.level.toNat ≤ 125 ∧ d.stepLevel b = { d with level := d.level + 2 }) ∨
    (b = false ∧ 2 ≤ d.level.toNat ∧ d.stepLevel b = { d with level := d.level - 2 }) ∨
    d.stepLevel b = d := by
  cases b
  · by_cases h : (2 : BitVec 7) ≤ d.level
    · exact .inr (.inl ⟨rfl, h, if_pos h⟩)
    · exact .inr (.inr (if_neg h))
  · by_cases h : d.level ≤ 125
    · exact .inl ⟨rfl, h, if_pos h⟩
    · exact .inr (.inr (if_neg h))

/-! ## StreamBuffer (R341, R342) -/

theorem Fifo.append_stores {f : Fifo} {x : Sample} (h : f.seq.length < f.cap) :
    f.append x = ({ f with seq := f.seq ++ [x] }, true) := by simp [Fifo.append, h, Fifo.push]

theorem Fifo.append_compacts {f : Fifo} {x : Sample} (h : f.cap ≤ f.seq.length) (ho : f.off ≠ 0) :
    f.append x = ({ f with seq := f.seq.drop (min f.off f.seq.length) ++ [x], off := 0 }, true) := by
  simp [Fifo.append, Nat.not_lt.mpr h, ho, Fifo.push, Fifo.compact]

theorem Fifo.append_fails {f : Fifo} {x : Sample} (h : f.cap ≤ f.seq.length) (ho : f.off = 0) :
    f.append x = (f, false) := by simp [Fifo.append, Nat.not_lt.mpr h, ho]

@[simp] theorem Fifo.append_cap (f : Fifo) (x : Sample) : (f.append x).1.cap = f.cap := by
  simp only [Fifo.append]; repeat' split
  all_goals rfl
@[simp] theorem Fifo.append_drops (f : Fifo) (x : Sample) : (f.append x).1.drops = f.drops := by
  simp only [Fifo.append]; repeat' split
  all_goals rfl

theorem Fifo.pull_nothing {f : Fifo} (h : f.seq.length ≤ f.off) : f.pull = (f, .noData) := by
  simp [Fifo.pull, h]

theorem Fifo.pull_remainder {f : Fifo} (h : f.off < f.seq.length) :
    f.pull = ({ f with off := f.seq.length }, .samples (f.seq.drop f.off)) := by
  simp [Fifo.pull, Nat.not_le.mpr h, Fifo.unread]

@[simp] theorem Fifo.pull_cap (f : Fifo) : f.pull.1.cap = f.cap := by
  simp only [Fifo.pull]; split <;> rfl

/-! ## Frame of `clockQuarterFrameAll` -/

@[simp] theorem State.clockQuarterFrameAll_reg (s : State) : (s.clockQuarterFrameAll).reg = s.reg := rfl
@[simp] theorem State.clockQuarterFrameAll_dmc (s : State) : (s.clockQuarterFrameAll).dmc = s.dmc := rfl
@[simp] theorem State.clockQuarterFrameAll_fs (s : State) : (s.clockQuarterFrameAll).fs = s.fs := rfl
@[simp] theorem State.clockQuarterFrameAll_mix (s : State) : (s.clockQuarterFrameAll).mix = s.mix := rfl
@[simp] theorem State.clockQuarterFrameAll_phase2 (s : State) : (s.clockQuarterFrameAll).phase2 = s.phase2 := rfl
@[simp] theorem State.clockQuarterFrameAll_fifo (s : State) : (s.clockQuarterFrameAll).fifo = s.fifo := rfl
@[simp] theorem State.clockQuarterFrameAll_mem (s : State) : (s.clockQuarterFrameAll).mem = s.mem := rfl
@[simp] theorem State.clockQuarterFrameAll_pending (s : State) : (s.clockQuarterFrameAll).pending = s.pending := rfl
@[simp] theorem State.clockQuarterFrameAll_obs (s : State) : (s.clockQuarterFrameAll).obs = s.obs := rfl

/-! ## Frame of `clockHalfFrameAll` -/

@[simp] theorem State.clockHalfFrameAll_reg (s : State) : (s.clockHalfFrameAll).reg = s.reg := rfl
@[simp] theorem State.clockHalfFrameAll_dmc (s : State) : (s.clockHalfFrameAll).dmc = s.dmc := rfl
@[simp] theorem State.clockHalfFrameAll_fs (s : State) : (s.clockHalfFrameAll).fs = s.fs := rfl
@[simp] theorem State.clockHalfFrameAll_mix (s : State) : (s.clockHalfFrameAll).mix = s.mix := rfl
@[simp] theorem State.clockHalfFrameAll_phase2 (s : State) : (s.clockHalfFrameAll).phase2 = s.phase2 := rfl
@[simp] theorem State.clockHalfFrameAll_fifo (s : State) : (s.clockHalfFrameAll).fifo = s.fifo := rfl
@[simp] theorem State.clockHalfFrameAll_mem (s : State) : (s.clockHalfFrameAll).mem = s.mem := rfl
@[simp] theorem State.clockHalfFrameAll_pending (s : State) : (s.clockHalfFrameAll).pending = s.pending := rfl
@[simp] theorem State.clockHalfFrameAll_obs (s : State) : (s.clockHalfFrameAll).obs = s.obs := rfl

/-! ## Frame of `doPosition` -/

@[simp] theorem State.doPosition_reg (s : State) (q h i : Bool) : (s.doPosition q h i).reg = s.reg := by
  cases q <;> cases h <;> cases i <;> cases hi : s.fs.irqInhibit <;> simp [State.doPosition, hi]
@[simp] theorem State.doPosition_dmc (s : State) (q h i : Bool) : (s.doPosition q h i).dmc = s.dmc := by
  cases q <;> cases h <;> cases i <;> cases hi : s.fs.irqInhibit <;> simp [State.doPosition, hi]
@[simp] theorem State.doPosition_mix (s : State) (q h i : Bool) : (s.doPosition q h i).mix = s.mix := by
  cases q <;> cases h <;> cases i <;> cases hi : s.fs.irqInhibit <;> simp [State.doPosition, hi]
@[simp] theorem State.doPosition_phase2 (s : State) (q h i : Bool) : (s.doPosition q h i).phase2 = s.phase2 := by
  cases q <;> cases h <;> cases i <;> cases hi : s.fs.irqInhibit <;> simp [State.doPosition, hi]
@[simp] theorem State.doPosition_fifo (s : State) (q h i : Bool) : (s.doPosition q h i).fifo = s.fifo := by
  cases q <;> cases h <;> cases i <;> cases hi : s.fs.irqInhibit <;> simp [State.doPosition, hi]
@[simp] theorem State.doPosition_mem (s : State) (q h i : Bool) : (s.doPosition q h i).mem = s.mem := by
  cases q <;> cases h <;> cases i <;> cases hi : s.fs.irqInhibit <;> simp [State.doPosition, hi]
@[simp] theorem State.doPosition_pending (s : State) (q h i : Bool) : (s.doPosition q h i).pending = s.pending := by
  cases q <;> cases h <;> cases i <;> cases hi : s.fs.irqInhibit <;> simp [State.doPosition, hi]
@[simp] theorem State.doPosition_obs (s : State) (q h i : Bool) : (s.doPosition q h i).obs = s.obs := by
  cases q <;> cases h <;> cases i <;> cases hi : s.fs.irqInhibit <;> simp [State.doPosition, hi]

/-- A position changes nothing of the sequencer but the flag, which it may set. -/
theorem State.doPosition_fs (s : State) (q h i : Bool) :
    (s.doPosition q h i).fs = if i && !s.fs.irqInhibit then s.fs.raiseIrq else s.fs := by
  cases q <;> cases h <;> cases i <;> cases hi : s.fs.irqInhibit <;>
    simp [State.doPosition, hi]

/-! ## Frame of `runPosition` -/

@[simp] theorem State.runPosition_reg (s : State) : (s.runPosition).reg = s.reg := by
  simp [State.runPosition]
@[simp] theorem State.runPosition_dmc (s : State) : (s.runPosition).dmc = s.dmc := by
  simp [State.runPosition]
@[simp] theorem State.runPosition_mix (s : State) : (s.runPosition).mix = s.mix := by
  simp [State.runPosition]
@[simp] theorem State.runPosition_phase2 (s : State) : (s.runPosition).phase2 = s.phase2 := by
  simp [State.runPosition]
@[simp] theorem State.runPosition_fifo (s : State) : (s.runPosition).fifo = s.fifo := by
  simp [State.runPosition]
@[simp] theorem State.runPosition_mem (s : State) : (s.runPosition).mem = s.mem := by
  simp [State.runPosition]
@[simp] theorem State.runPosition_pending (s : State) : (s.runPosition).pending = s.pending := by
  simp [State.runPosition]
@[simp] theorem State.runPosition_obs (s : State) : (s.runPosition).obs = s.obs := by
  simp [State.runPosition]

/-! ## Frame of `fsClock` -/

@[simp] theorem State.fsClock_reg (s : State) : (s.fsClock).reg = s.reg := by
  simp only [State.fsClock]; split <;> simp
@[simp] theorem State.fsClock_dmc (s : State) : (s.fsClock).dmc = s.dmc := by
  simp only [State.fsClock]; split <;> simp
@[simp] theorem State.fsClock_mix (s : State) : (s.fsClock).mix = s.mix := by
  simp only [State.fsClock]; split <;> simp
@[simp] theorem State.fsClock_phase2 (s : State) : (s.fsClock).phase2 = s.phase2 := by
  simp only [State.fsClock]; split <;> simp
@[simp] theorem State.fsClock_fifo (s : State) : (s.fsClock).fifo = s.fifo := by
  simp only [State.fsClock]; split <;> simp
@[simp] theorem State.fsClock_mem (s : State) : (s.fsClock).mem = s.mem := by
  simp only [State.fsClock]; split <;> simp
@[simp] theorem State.fsClock_pending (s : State) : (s.fsClock).pending = s.pending := by
  simp only [State.fsClock]; split <;> simp
@[simp] theorem State.fsClock_obs (s : State) : (s.fsClock).obs = s.obs := by
  simp only [State.fsClock]; split <;> simp

/-! ## Frame of `writeMode` -/

@[simp] theorem State.writeMode_reg (s : State) (m inh : Bool) : (s.writeMode m inh).reg = s.reg := by
  cases m <;> rfl
@[simp] theorem State.writeMode_dmc (s : State) (m inh : Bool) : (s.writeMode m inh).dmc = s.dmc := by
  cases m <;> rfl
@[simp] theorem State.writeMode_mix (s : State) (m inh : Bool) : (s.writeMode m inh).mix = s.mix := by
  cases m <;> rfl
@[simp] theorem State.writeMode_phase2 (s : State) (m inh : Bool) : (s.writeMode m inh).phase2 = s.phase2 := by
  cases m <;> rfl
@[simp] theorem State.writeMode_fifo (s : State) (m inh : Bool) : (s.writeMode m inh).fifo = s.fifo := by
  cases m <;> rfl
@[simp] theorem State.writeMode_mem (s : State) (m inh : Bool) : (s.writeMode m inh).mem = s.mem := by
  cases m <;> rfl
@[simp] theorem State.writeMode_pending (s : State) (m inh : Bool) : (s.writeMode m inh).pending = s.pending := by
  cases m <;> rfl
@[simp] theorem State.writeMode_obs (s : State) (m inh : Bool) : (s.writeMode m inh).obs = s.obs := by
  cases m <;> rfl

@[simp] theorem State.writeMode_fs (s : State) (m inh : Bool) : (s.writeMode m inh).fs = s.fs.writeMode m inh := by
  cases m <;> rfl

/-! ## Frame of `clockHalfRateTimers` -/

@[simp] theorem State.clockHalfRateTimers_reg (s : State) : (s.clockHalfRateTimers).reg = s.reg := rfl
@[simp] theorem State.clockHalfRateTimers_tri (s : State) : (s.clockHalfRateTimers).tri = s.tri := rfl
@[simp] theorem State.clockHalfRateTimers_fs (s : State) : (s.clockHalfRateTimers).fs = s.fs := rfl
@[simp] theorem State.clockHalfRateTimers_mix (s : State) : (s.clockHalfRateTimers).mix = s.mix := rfl
@[simp] theorem State.clockHalfRateTimers_phase2 (s : State) : (s.clockHalfRateTimers).phase2 = s.phase2 := rfl
@[simp] theorem State.clockHalfRateTimers_fifo (s : State) : (s.clockHalfRateTimers).fifo = s.fifo := rfl
@[simp] theorem State.clockHalfRateTimers_mem (s : State) : (s.clockHalfRateTimers).mem = s.mem := rfl
@[simp] theorem State.clockHalfRateTimers_pending (s : State) : (s.clockHalfRateTimers).pending = s.pending := rfl

/-! ## Frame of `clockTimers` -/

@[simp] theorem State.clockTimers_reg (s : State) : (s.clockTimers).reg = s.reg := by
  simp only [State.clockTimers]; split <;> simp
@[simp] theorem State.clockTimers_fs (s : State) : (s.clockTimers).fs = s.fs := by
  simp only [State.clockTimers]; split <;> simp
@[simp] theorem State.clockTimers_mix (s : State) : (s.clockTimers).mix = s.mix := by
  simp only [State.clockTimers]; split <;> simp
@[simp] theorem State.clockTimers_fifo (s : State) : (s.clockTimers).fifo = s.fifo := by
  simp only [State.clockTimers]; split <;> simp
@[simp] theorem State.clockTimers_mem (s : State) : (s.clockTimers).mem = s.mem := by
  simp only [State.clockTimers]; split <;> simp
@[simp] theorem State.clockTimers_pending (s : State) : (s.clockTimers).pending = s.pending := by
  simp only [State.clockTimers]; split <;> simp

@[simp] theorem State.clockTimers_phase2 (s : State) : s.clockTimers.phase2 = !s.phase2 := by
  simp only [State.clockTimers]; split <;> simp_all
@[simp] theorem State.clockTimers_tri (s : State) : s.clockTimers.tri = s.tri.clockTimer := by
  simp only [State.clockTimers]; split <;> simp
@[simp] theorem State.clockTimers_result (s : State) : s.clockTimers.obs.result = s.obs.result := by
  simp only [State.clockTimers]; split <;> simp [State.clockHalfRateTimers]
@[simp] theorem State.clockTimers_emitted (s : State) : s.clockTimers.obs.emitted = s.obs.emitted := by
  simp only [State.clockTimers]; split <;> simp [State.clockHalfRateTimers]
@[simp] theorem State.clockTimers_delivered (s : State) : s.clockTimers.obs.delivered = s.obs.delivered := by
  simp only [State.clockTimers]; split <;> simp [State.clockHalfRateTimers]

/-! ## `append`, `emit` and `resample` -/

@[simp] theorem State.append_reg (s : State) (x : Sample) : (s.append x).1.reg = s.reg := rfl
@[simp] theorem State.append_p1 (s : State) (x : Sample) : (s.append x).1.p1 = s.p1 := rfl
@[simp] theorem State.append_p2 (s : State) (x : Sample) : (s.append x).1.p2 = s.p2 := rfl
@[simp] theorem State.append_tri (s : State) (x : Sample) : (s.append x).1.tri = s.tri := rfl
@[simp] theorem State.append_noi (s : State) (x : Sample) : (s.append x).1.noi = s.noi := rfl
@[simp] theorem State.append_dmc (s : State) (x : Sample) : (s.append x).1.dmc = s.dmc := rfl
@[simp] theorem State.append_fs (s : State) (x : Sample) : (s.append x).1.fs = s.fs := rfl
@[simp] theorem State.append_mix (s : State) (x : Sample) : (s.append x).1.mix = s.mix := rfl
@[simp] theorem State.append_phase2 (s : State) (x : Sample) : (s.append x).1.phase2 = s.phase2 := rfl
@[simp] theorem State.append_mem (s : State) (x : Sample) : (s.append x).1.mem = s.mem := rfl
@[simp] theorem State.append_pending (s : State) (x : Sample) : (s.append x).1.pending = s.pending := rfl
@[simp] theorem State.append_fifo (s : State) (x : Sample) : (s.append x).1.fifo = (s.fifo.append x).1 := rfl
@[simp] theorem State.append_emitted (s : State) (x : Sample) :
    (s.append x).1.obs.emitted = s.obs.emitted ++ [x] := rfl
@[simp] theorem State.append_ok (s : State) (x : Sample) : (s.append x).2 = (s.fifo.append x).2 := rfl

/-- What an emission does: one sample offered, a failed append counted, the running sum restarted. -/
theorem State.emit_eq (s : State) : s.emit = { s with
    fifo := { (s.fifo.append (scaleSample s.mix.average)).1 with
      drops := if (s.fifo.append (scaleSample s.mix.average)).2 then s.fifo.drops else s.fifo.drops + 1 },
    obs.emitted := s.obs.emitted ++ [scaleSample s.mix.average],
    mix := { acc := s.mix.acc - Config.cpuHz, sum := 0, count := 0 } } := by
  have hd := Fifo.append_drops s.fifo (scaleSample s.mix.average)
  generalize hr : s.fifo.append (scaleSample s.mix.average) = r at hd
  obtain ⟨f, ok⟩ := r
  cases ok <;> simp [State.emit, State.append, hr, ← hd]

theorem State.resample_within {s : State} (h : s.mix.acc + Config.sampleRate < Config.cpuHz) :
    s.resample = { s with mix.acc := s.mix.acc + Config.sampleRate } := by
  simp [State.resample, Nat.not_le.mpr h]

theorem State.resample_emits {s : State} (h : Config.cpuHz ≤ s.mix.acc + Config.sampleRate) :
    s.resample = ({ s with mix.acc := s.mix.acc + Config.sampleRate } : State).emit := by
  simp [State.resample, h]

/-! ## Runs of `STEP`s -/

/-- A `STEP` leaves the events to come as they are. -/
theorem State.cycle_resample_pending (s : State) : s.cycle.resample.pending = s.pending := by
  have h : s.cycle.pending = s.pending := by simp [State.cycle]
  rw [← h]
  generalize s.cycle = c
  simp only [State.resample]
  split <;> simp [State.emit_eq]

theorem State.withEvents_self {s : State} {es : List Event} (h : s.pending = es) : s.withEvents es = s := by
  subst h
  rfl

/-- One step of a run. -/
theorem run_next {n : Nat} {s t : State} (h : step s = .next t) :
    Sys2Proof.core.run (n + 1) s = Sys2Proof.core.run n t := by
  have h' : Sys2Proof.core.step s = .next t := h
  simp only [Host.Core.run]
  rw [h']

/-- A run whose next event is a `STEP`. -/
theorem run_step (n : Nat) (s : State) (es : List Event) :
    Sys2Proof.core.run (n + 1) (s.withEvents (.step :: es)) =
      Sys2Proof.core.run n ({ s with pending := es } : State).cycle.resample := by
  refine run_next ?_
  have h := State.fetch_cons (s.withEvents (.step :: es)) .step es rfl
  unfold step
  rw [h]
  rfl

end Sys2Proof.Machine
end

