-- ==== Sys2Proof/Laws/PerInstr.lean ====
section
/-! SUPPORT. The family `External` of LAWS.json, one lemma per constructor of `Instr`: an operation has an event that
invokes it exactly when it is a `W` or an `EVENT` row; an `INTERNAL` row is "not issuable from outside" (R127). -/

namespace Sys2Proof.Laws.External

-- One theorem at a time, so that a build with large thread stacks does not run out of threads.
set_option Elab.async false

/-- The operation is encoded as an event exactly when it is issuable from outside. -/
def Statement (i : Instr) : Prop := (encode i).isSome = i.isExternal

theorem wP1R0 (b : Byte) : Statement (.wP1R0 b) := rfl
theorem wP1R1 (b : Byte) : Statement (.wP1R1 b) := rfl
theorem wP1R2 (b : Byte) : Statement (.wP1R2 b) := rfl
theorem wP1R3 (b : Byte) : Statement (.wP1R3 b) := rfl
theorem wP2R0 (b : Byte) : Statement (.wP2R0 b) := rfl
theorem wP2R1 (b : Byte) : Statement (.wP2R1 b) := rfl
theorem wP2R2 (b : Byte) : Statement (.wP2R2 b) := rfl
theorem wP2R3 (b : Byte) : Statement (.wP2R3 b) := rfl
theorem wTriR0 (b : Byte) : Statement (.wTriR0 b) := rfl
theorem wTriR1 (b : Byte) : Statement (.wTriR1 b) := rfl
theorem wTriR2 (b : Byte) : Statement (.wTriR2 b) := rfl
theorem wTriR3 (b : Byte) : Statement (.wTriR3 b) := rfl
theorem wNoiR0 (b : Byte) : Statement (.wNoiR0 b) := rfl
theorem wNoiR1 (b : Byte) : Statement (.wNoiR1 b) := rfl
theorem wNoiR2 (b : Byte) : Statement (.wNoiR2 b) := rfl
theorem wNoiR3 (b : Byte) : Statement (.wNoiR3 b) := rfl
theorem wDmcR0 (b : Byte) : Statement (.wDmcR0 b) := rfl
theorem wDmcR1 (b : Byte) : Statement (.wDmcR1 b) := rfl
theorem wDmcR2 (b : Byte) : Statement (.wDmcR2 b) := rfl
theorem wDmcR3 (b : Byte) : Statement (.wDmcR3 b) := rfl
theorem wId14 (b : Byte) : Statement (.wId14 b) := rfl
theorem wEnable (b : Byte) : Statement (.wEnable b) := rfl
theorem wId16 (b : Byte) : Statement (.wId16 b) := rfl
theorem wFrame (b : Byte) : Statement (.wFrame b) := rfl
theorem wId18To1F (low : BitVec 3) (b : Byte) : Statement (.wId18To1F low b) := rfl
theorem step : Statement .step := rfl
theorem reset : Statement .reset := rfl
theorem pull : Statement .pull := rfl
theorem seek (t : Nat) : Statement (.seek t) := rfl
theorem dividerSetPeriod (d : DividerId) (p : BitVec d.width) : Statement (.dividerSetPeriod d p) := rfl
theorem dividerResetCounter (d : DividerId) : Statement (.dividerResetCounter d) := rfl
theorem dividerClock (d : DividerId) : Statement (.dividerClock d) := rfl
theorem timerSetPeriodLow8 (t : SplitTimerId) (v : BitVec 8) : Statement (.timerSetPeriodLow8 t v) := rfl
theorem timerSetPeriodHigh3 (t : SplitTimerId) (v : BitVec 3) : Statement (.timerSetPeriodHigh3 t v) := rfl
theorem timerSetPeriod (t : TimerId) (p : BitVec t.width) : Statement (.timerSetPeriod t p) := rfl
theorem timerGetPeriod (t : TimerId) : Statement (.timerGetPeriod t) := rfl
theorem timerClock (t : TimerId) : Statement (.timerClock t) := rfl
theorem lengthSetEnabled (l : LengthId) (e : Bool) : Statement (.lengthSetEnabled l e) := rfl
theorem lengthSetHalt (l : LengthId) (h : Bool) : Statement (.lengthSetHalt l h) := rfl
theorem lengthLoad (l : LengthId) (i : BitVec 5) : Statement (.lengthLoad l i) := rfl
theorem lengthClock (l : LengthId) : Statement (.lengthClock l) := rfl
theorem lengthSilenceChannel (l : LengthId) : Statement (.lengthSilenceChannel l) := rfl
theorem lengthGetValue (l : LengthId) : Statement (.lengthGetValue l) := rfl
theorem envelopeSetConstantVolume (e : EnvelopeId) (v : BitVec 4) : Statement (.envelopeSetConstantVolume e v) := rfl
theorem envelopeRestart (e : EnvelopeId) : Statement (.envelopeRestart e) := rfl
theorem envelopeClock (e : EnvelopeId) : Statement (.envelopeClock e) := rfl
theorem envelopeGetVolume (e : EnvelopeId) : Statement (.envelopeGetVolume e) := rfl
theorem envelopeSetLoop (e : EnvelopeId) (b : Bool) : Statement (.envelopeSetLoop e b) := rfl
theorem envelopeSetConstantVolumeMode (e : EnvelopeId) (b : Bool) : Statement (.envelopeSetConstantVolumeMode e b) := rfl
theorem sweepTarget (x : PulseId) : Statement (.sweepTarget x) := rfl
theorem sweepRetune (x : PulseId) : Statement (.sweepRetune x) := rfl
theorem sweepSilence (x : PulseId) : Statement (.sweepSilence x) := rfl
theorem sweepClock (x : PulseId) : Statement (.sweepClock x) := rfl
theorem sweepSetEnabled (x : PulseId) (b : Bool) : Statement (.sweepSetEnabled x b) := rfl
theorem sweepSetNegate (x : PulseId) (b : Bool) : Statement (.sweepSetNegate x b) := rfl
theorem sweepSetPeriod (x : PulseId) (p : BitVec 3) : Statement (.sweepSetPeriod x p) := rfl
theorem sweepSetShiftCount (x : PulseId) (n : BitVec 3) : Statement (.sweepSetShiftCount x n) := rfl
theorem sweepRestart (x : PulseId) : Statement (.sweepRestart x) := rfl
theorem pulseWaveAdvance (x : PulseId) : Statement (.pulseWaveAdvance x) := rfl
theorem pulseWaveRestart (x : PulseId) : Statement (.pulseWaveRestart x) := rfl
theorem pulseWaveOutput (x : PulseId) : Statement (.pulseWaveOutput x) := rfl
theorem triWaveAdvance : Statement .triWaveAdvance := rfl
theorem triWaveOutput : Statement .triWaveOutput := rfl
theorem linearCounterClock : Statement .linearCounterClock := rfl
theorem linearCounterSetReloadFlag : Statement .linearCounterSetReloadFlag := rfl
theorem noiseWaveAdvance : Statement .noiseWaveAdvance := rfl
theorem noiseWaveOutput : Statement .noiseWaveOutput := rfl
theorem dmcRestartSample : Statement .dmcRestartSample := rfl
theorem dmcFill : Statement .dmcFill := rfl
theorem dmcOutputClock : Statement .dmcOutputClock := rfl
theorem dmcStepLevel (b : Bool) : Statement (.dmcStepLevel b) := rfl
theorem dmcStartOutputCycle : Statement .dmcStartOutputCycle := rfl
theorem dmcOutput : Statement .dmcOutput := rfl
theorem pulseClockTimer (x : PulseId) : Statement (.pulseClockTimer x) := rfl
theorem pulseGetValue (x : PulseId) : Statement (.pulseGetValue x) := rfl
theorem pulseClockQuarterFrame (x : PulseId) : Statement (.pulseClockQuarterFrame x) := rfl
theorem pulseClockHalfFrame (x : PulseId) : Statement (.pulseClockHalfFrame x) := rfl
theorem triangleClockTimer : Statement .triangleClockTimer := rfl
theorem triangleClockQuarterFrame : Statement .triangleClockQuarterFrame := rfl
theorem triangleGetValue : Statement .triangleGetValue := rfl
theorem triangleClockHalfFrame : Statement .triangleClockHalfFrame := rfl
theorem noiseClockTimer : Statement .noiseClockTimer := rfl
theorem noiseGetValue : Statement .noiseGetValue := rfl
theorem noiseClockQuarterFrame : Statement .noiseClockQuarterFrame := rfl
theorem noiseClockHalfFrame : Statement .noiseClockHalfFrame := rfl
theorem dmcGetValue : Statement .dmcGetValue := rfl
theorem dmcClockTimer : Statement .dmcClockTimer := rfl
theorem dmcClockQuarterFrame : Statement .dmcClockQuarterFrame := rfl
theorem dmcClockHalfFrame : Statement .dmcClockHalfFrame := rfl
theorem clockQuarterFrameAll : Statement .clockQuarterFrameAll := rfl
theorem clockHalfFrameAll : Statement .clockHalfFrameAll := rfl
theorem fsClock : Statement .fsClock := rfl
theorem fsDoPosition (q h i : Bool) : Statement (.fsDoPosition q h i) := rfl
theorem fsWriteMode (m inh : Bool) : Statement (.fsWriteMode m inh) := rfl
theorem clockTimers : Statement .clockTimers := rfl
theorem mix : Statement .mix := rfl
theorem resample : Statement .resample := rfl
theorem scale (avg : Rat) : Statement (.scale avg) := rfl
theorem fifoAppend (x : Sample) : Statement (.fifoAppend x) := rfl

end Sys2Proof.Laws.External
end

