-- ==== Sys2Proof/Tests/Slice0.lean ====
section
/-! SUPPORT. The model's own tests.  Expected values are written out from the spec's examples and vectors, named in
each docstring; each test is one operation on a small state.  The last part shows, for each statement with
hypotheses, states and operands that meet them. -/

namespace Sys2Proof.Tests

-- One theorem at a time, so that a build with large thread stacks does not run out of threads.
set_option Elab.async false

open Sys2Proof Sys2Proof.Machine

/-! ## Helpers -/

/-- The operation `i` on `s` answers a next state of which `p` holds. -/
def After (i : Instr) (s : State) (p : State → Bool) : Bool :=
  match exec i s with
  | .next t => p t
  | .fault _ => false
  | .refused _ => false

/-- The machine's step on `s` answers a next state of which `p` holds. -/
def Steps (s : State) (p : State → Bool) : Bool :=
  match step s with
  | .next t => p t
  | .fault _ => false
  | .refused _ => false

/-- The state after reset, with a FIFO of capacity 4. -/
def base : State := { State.reset with fifo.cap := 4 }

/-- `base` after `W ENABLE,$0F` (spec/95_test_vectors.md, 2.6). -/
def enabled : State := { base with
  p1.len.enabled := true, p2.len.enabled := true, tri.len.enabled := true, noi.len.enabled := true }

/-! ## Well-formedness: ill-formed terms are refused -/

theorem test_append_above_the_sample_range_is_ill_formed : (Instr.fifoAppend 40000).wellFormed = false := by decide
theorem test_append_below_the_sample_range_is_ill_formed : (Instr.fifoAppend (-32769)).wellFormed = false := by decide
theorem test_append_at_the_ends_is_well_formed :
    (Instr.fifoAppend 32767).wellFormed = true ∧ (Instr.fifoAppend (-32768)).wellFormed = true := by decide
theorem test_scale_of_one_is_ill_formed : (Instr.scale 1).wellFormed = false := by decide +kernel
theorem test_scale_below_zero_is_ill_formed : (Instr.scale (-1)).wellFormed = false := by decide +kernel
theorem test_scale_of_zero_is_well_formed : (Instr.scale 0).wellFormed = true := by decide +kernel

/-! ## Decoding, by words written out from the spec's examples (R125, R262 to R293; 2.6 of the vectors) -/

/-- `id` in bits 12:8, the byte in bits 7:0, each word in binary. -/
theorem test_decode_pulse1 :
    decodeWord 0b00000_01011010 = .wP1R0 0x5A ∧ decodeWord 0b00001_00001000 = .wP1R1 0x08 ∧
    decodeWord 0b00010_00001000 = .wP1R2 0x08 ∧ decodeWord 0b00011_00011000 = .wP1R3 0x18 := by decide
theorem test_decode_pulse2 :
    decodeWord 0b00100_10111111 = .wP2R0 0xBF ∧ decodeWord 0b00101_10000001 = .wP2R1 0x81 ∧
    decodeWord 0b00110_01000000 = .wP2R2 0x40 ∧ decodeWord 0b00111_00001001 = .wP2R3 0x09 := by decide
theorem test_decode_triangle :
    decodeWord 0b01000_00000011 = .wTriR0 0x03 ∧ decodeWord 0b01001_11111111 = .wTriR1 0xFF ∧
    decodeWord 0b01010_00000010 = .wTriR2 0x02 ∧ decodeWord 0b01011_00001000 = .wTriR3 0x08 := by decide
theorem test_decode_noise :
    decodeWord 0b01100_00111111 = .wNoiR0 0x3F ∧ decodeWord 0b01101_10000000 = .wNoiR1 0x80 ∧
    decodeWord 0b01110_10001111 = .wNoiR2 0x8F ∧ decodeWord 0b01111_00001000 = .wNoiR3 0x08 := by decide
theorem test_decode_sample_playback :
    decodeWord 0b10000_00001111 = .wDmcR0 0x0F ∧ decodeWord 0b10001_01000000 = .wDmcR1 0x40 ∧
    decodeWord 0b10010_11111111 = .wDmcR2 0xFF ∧ decodeWord 0b10011_00000100 = .wDmcR3 0x04 := by decide
theorem test_decode_control_and_reserved :
    decodeWord 0b10100_00000010 = .wId14 0x02 ∧ decodeWord 0b10101_00011111 = .wEnable 0x1F ∧
    decodeWord 0b10110_00000001 = .wId16 0x01 ∧ decodeWord 0b10111_11000000 = .wFrame 0xC0 ∧
    decodeWord 0b11000_00000000 = .wId18To1F 0 0x00 ∧ decodeWord 0b11111_11111111 = .wId18To1F 7 0xFF := by decide
/-- Events stand for themselves (R100); a number of more than 13 bits is rejected by name. -/
theorem test_decode_events_and_rejection :
    decodeEvent .step = .step ∧ decodeEvent .reset = .reset ∧ decodeEvent .pull = .pull ∧
    decodeEvent (.seek 3) = .seek 3 ∧ decodeNat 0x2000 = .error .widerThan13Bits ∧
    decodeTableWord 13 0x005A = some (.wP1R0 0x5A) ∧ decodeTableWord 16 0x2000 = none := by decide
/-- A word placed by `withFetchWord` is the very next operation: `W P1_R0,$5A` (R262). -/
theorem test_fetch_word_runs :
    Steps (base.withFetchWord 13 0x005A) (fun t => decide (t.p1.duty = 1 ∧ t.p1.env.constantLevel = 10)) = true := by
  decide

/-! ## Divider and Timer (vectors V1 to V10) -/

/-- V4, C1: a lowered period leaves the counter. -/
theorem test_divider_setPeriod : (⟨5, 4⟩ : Divider 11).setPeriod 1 = ⟨1, 4⟩ := by decide
/-- R142. -/
theorem test_divider_resetCounter : (⟨3, 1⟩ : Divider 11).resetCounter = ⟨3, 3⟩ := by decide
/-- V1, V2. -/
theorem test_divider_clock :
    (⟨3, 3⟩ : Divider 11).clock = (⟨3, 2⟩, false) ∧ (⟨3, 0⟩ : Divider 11).clock = (⟨3, 3⟩, true) := by decide
/-- V3. -/
theorem test_divider_period0 : (⟨0, 0⟩ : Divider 4).clock = (⟨0, 0⟩, true) := by decide
/-- V6, V8. -/
theorem test_timer_low8 :
    Timer.setPeriodLow8 ⟨⟨0, 0⟩⟩ 0xFD = ⟨⟨0x0FD, 0⟩⟩ ∧
    Timer.setPeriodLow8 ⟨⟨0x5FD, 0x5FD⟩⟩ 0x12 = ⟨⟨0x512, 0x5FD⟩⟩ := by decide
/-- V7 and the example of R147. -/
theorem test_timer_high3 :
    Timer.setPeriodHigh3 ⟨⟨0x0FD, 0⟩⟩ 5 = ⟨⟨0x5FD, 0x5FD⟩⟩ ∧
    Timer.setPeriodHigh3 ⟨⟨0x210, 5⟩⟩ 1 = ⟨⟨0x110, 0x110⟩⟩ := by decide
/-- The example of R148. -/
theorem test_timer_setPeriod :
    After (.timerSetPeriod .noi 0x180) { base with noi.timer := ⟨⟨0x100, 7⟩⟩ }
      (fun t => decide (t.noi.timer = ⟨⟨0x180, 7⟩⟩)) = true := by decide
/-- R149, on the 8-bit timer. -/
theorem test_timer_getPeriod :
    After (.timerGetPeriod .dmc) base (fun t => decide (t.obs.result = .num 213)) = true := by decide
/-- V9, V10: the triangle's gate. -/
theorem test_timer_gate :
    After (.timerClock .tri) { base with tri.timer := ⟨⟨1, 0⟩⟩ }
      (fun t => decide (t.tri.timer = ⟨⟨1, 0⟩⟩ ∧ t.obs.result = .flag false)) = true ∧
    After (.timerClock .tri) { base with tri.timer := ⟨⟨2, 0⟩⟩ }
      (fun t => decide (t.tri.timer = ⟨⟨2, 2⟩⟩ ∧ t.obs.result = .flag true)) = true := by decide

/-! ## LengthCounter (vectors L1 to L6) -/

/-- L1, L2. -/
theorem test_length_load :
    (⟨false, false, 0⟩ : LengthCounter).load 1 = ⟨false, false, 0⟩ ∧
    (⟨true, false, 0⟩ : LengthCounter).load 3 = ⟨true, false, 2⟩ := by decide
/-- L6: the last and the first entry. -/
theorem test_length_table_ends :
    (⟨true, false, 7⟩ : LengthCounter).load 31 = ⟨true, false, 30⟩ ∧
    (⟨true, false, 30⟩ : LengthCounter).load 0 = ⟨true, false, 10⟩ := by decide
/-- L3, L4. -/
theorem test_length_clock :
    (⟨true, false, 2⟩ : LengthCounter).clock = ⟨true, false, 1⟩ ∧
    (⟨true, false, 0⟩ : LengthCounter).clock = ⟨true, false, 0⟩ ∧
    (⟨true, true, 254⟩ : LengthCounter).clock = ⟨true, true, 254⟩ := by decide
/-- L5. -/
theorem test_length_setEnabled :
    (⟨true, true, 254⟩ : LengthCounter).setEnabled false = ⟨false, true, 0⟩ ∧
    (⟨false, true, 0⟩ : LengthCounter).setEnabled true = ⟨true, true, 0⟩ := by decide
/-- R165. -/
theorem test_length_reads :
    After (.lengthSilenceChannel .tri) base (fun t => decide (t.obs.result = .flag true)) = true ∧
    After (.lengthGetValue .noi) { base with noi.len.counter := 20 } (fun t => decide (t.obs.result = .num 20)) =
      true := by decide

/-! ## VolumeEnvelope (vectors E1 to E4) -/

/-- E1: the restart clock, then the divider counts, then it fires. -/
theorem test_envelope_clock :
    (⟨true, false, 3, false, 2, ⟨2, 1⟩⟩ : Envelope).clock = ⟨false, false, 15, false, 2, ⟨2, 2⟩⟩ ∧
    (⟨false, false, 15, false, 2, ⟨2, 2⟩⟩ : Envelope).clock = ⟨false, false, 15, false, 2, ⟨2, 1⟩⟩ ∧
    (⟨false, false, 15, false, 2, ⟨2, 0⟩⟩ : Envelope).clock = ⟨false, false, 14, false, 2, ⟨2, 2⟩⟩ := by decide
/-- E1, E2: at 0 the counter holds or reloads. -/
theorem test_envelope_end :
    (⟨false, false, 0, false, 2, ⟨2, 0⟩⟩ : Envelope).clock = ⟨false, false, 0, false, 2, ⟨2, 2⟩⟩ ∧
    (⟨false, true, 0, false, 0, ⟨0, 0⟩⟩ : Envelope).clock = ⟨false, true, 15, false, 0, ⟨0, 0⟩⟩ := by decide
/-- E4, and the example of R171. -/
theorem test_envelope_volume :
    (⟨false, false, 15, true, 7, ⟨7, 7⟩⟩ : Envelope).getVolume = 7 ∧
    (⟨false, false, 15, false, 7, ⟨7, 7⟩⟩ : Envelope).getVolume = 15 ∧
    Envelope.reset.setConstantVolume 10 = ⟨false, false, 0, false, 10, ⟨10, 0⟩⟩ := by decide
/-- R172, R176, R177. -/
theorem test_envelope_setters :
    After (.envelopeRestart .p2) base (fun t => t.p2.env.restart) = true ∧
    After (.envelopeSetLoop .noi true) base (fun t => t.noi.env.loop) = true ∧
    After (.envelopeSetConstantVolumeMode .p1 true) base (fun t => t.p1.env.constantMode) = true := by decide

/-! ## SweepUnit (vectors W1 to W16) -/

/-- W1 to W4. -/
theorem test_sweep_target :
    (⟨false, false, false, 2, ⟨0, 0⟩⟩ : SweepUnit).target 1 0x100 = 0x140 ∧
    (⟨false, true, false, 2, ⟨0, 0⟩⟩ : SweepUnit).target 1 0x100 = 0x0BF ∧
    (⟨false, true, false, 2, ⟨0, 0⟩⟩ : SweepUnit).target 0 0x100 = 0x0C0 ∧
    (⟨false, false, false, 0, ⟨0, 0⟩⟩ : SweepUnit).target 0 0x7FF = 0xFFE := by decide
/-- W8, W10: the clamp at 0, and the one more subtracted on p1. -/
theorem test_sweep_target_clamp :
    (⟨false, true, false, 0, ⟨0, 0⟩⟩ : SweepUnit).target 1 0x008 = 0 ∧
    (⟨false, true, false, 1, ⟨0, 0⟩⟩ : SweepUnit).target 1 0x008 = 3 := by decide
/-- W5, W6, W7, W12, W13. -/
theorem test_sweep_silence :
    (⟨false, false, false, 0, ⟨0, 0⟩⟩ : SweepUnit).silences 1 0x400 = true ∧
    (⟨false, false, false, 0, ⟨0, 0⟩⟩ : SweepUnit).silences 1 0x3FF = false ∧
    (⟨false, false, false, 3, ⟨0, 0⟩⟩ : SweepUnit).silences 1 0x007 = true ∧
    (⟨false, false, false, 1, ⟨0, 0⟩⟩ : SweepUnit).silences 1 0x555 = false ∧
    (⟨false, false, false, 1, ⟨0, 0⟩⟩ : SweepUnit).silences 1 0x556 = true := by decide

/-- p2 of the example of R184 after its register-1 write, with a period of 0x100. -/
def sweeping : State := { base with
  p2.sweep := ⟨true, false, true, 1, ⟨0, 0⟩⟩, p2.timer := ⟨⟨0x100, 7⟩⟩ }

/-- R182, R184: the first half-frame clock retunes to 0x180, keeps the timer's counter and clears the flag. -/
theorem test_sweep_clock :
    After (.sweepClock .p2) sweeping
      (fun t => decide (t.p2.timer = ⟨⟨0x180, 7⟩⟩ ∧ t.p2.sweep = ⟨true, false, false, 1, ⟨0, 0⟩⟩)) = true := by decide
/-- R184: from 0x798 the target 0xB64 exceeds 0x7FF: silenced, the period stays. -/
theorem test_sweep_clock_silenced :
    After (.sweepClock .p2) { sweeping with p2.timer.div.period := 0x798 }
      (fun t => decide (t.p2.timer = ⟨⟨0x798, 7⟩⟩)) = true := by decide
/-- R185 to R189, through `W P2_R1,$81` (R268). -/
theorem test_sweep_register :
    After (.wP2R1 0x81) base (fun t => decide (t.p2.sweep = ⟨true, false, true, 1, ⟨0, 0⟩⟩)) = true := by decide

/-! ## Waveform generators (vectors D1 to M3) -/

/-- D1, D2, S6. -/
theorem test_duty :
    (List.range 8).map (fun p => dutyBit 1 (BitVec.ofNat 3 p)) =
      [false, true, true, false, false, false, false, false] ∧ dutyBit 3 0 = true ∧ dutyBit 2 4 = true := by decide
/-- R197, R201: the wraps. -/
theorem test_phase_wraps :
    After (.pulseWaveAdvance .p1) { base with p1.phase := 7 } (fun t => decide (t.p1.phase = 0)) = true ∧
    After .triWaveAdvance { base with tri.phase := 31 } (fun t => decide (t.tri.phase = 0)) = true := by decide
/-- T1. -/
theorem test_triangle_sequence : [0, 15, 16, 31].map (fun p => triLevel (BitVec.ofNat 5 p)) = [15, 0, 0, 15] := by
  decide
/-- T2, and the control flag keeping the reload flag. -/
theorem test_linear_counter :
    After .linearCounterClock { base with tri.reloadFlag := true, tri.reloadValue := 3 }
      (fun t => decide (t.tri.lin = 3 ∧ t.tri.reloadFlag = false)) = true ∧
    After .linearCounterClock { base with tri.reloadFlag := true, tri.reloadValue := 3, tri.control := true }
      (fun t => decide (t.tri.lin = 3 ∧ t.tri.reloadFlag = true)) = true := by decide
/-- N1, N2: from 0x0001; the feedback taps of the two modes at 0x0002 and 0x0040. -/
theorem test_noise_advance :
    (⟨⟨⟨1, 1⟩⟩, LengthCounter.reset, Envelope.reset, false, 0, 0x0002⟩ : Noise).advance.lfsr = 0x4001 ∧
    (⟨⟨⟨1, 1⟩⟩, LengthCounter.reset, Envelope.reset, true, 0, 0x0040⟩ : Noise).advance.lfsr = 0x4020 ∧
    (⟨⟨⟨1, 1⟩⟩, LengthCounter.reset, Envelope.reset, true, 0, 0x0001⟩ : Noise).advance.lfsr = 0x4000 := by decide
/-- N2: the output bit. -/
theorem test_noise_output :
    After .noiseWaveOutput base (fun t => decide (t.obs.result = .flag false)) = true ∧
    After .noiseWaveOutput { base with noi.lfsr := 0x4000 } (fun t => decide (t.obs.result = .flag true)) = true := by
  decide
/-- M1: the level refuses a step that would leave its range. -/
theorem test_dmc_stepLevel :
    After (.dmcStepLevel true) { base with dmc.level := 126 } (fun t => decide (t.dmc.level = 126)) = true ∧
    After (.dmcStepLevel true) { base with dmc.level := 125 } (fun t => decide (t.dmc.level = 127)) = true ∧
    After (.dmcStepLevel false) { base with dmc.level := 1 } (fun t => decide (t.dmc.level = 1)) = true ∧
    After (.dmcStepLevel false) { base with dmc.level := 64 } (fun t => decide (t.dmc.level = 62)) = true := by decide
/-- M2. -/
theorem test_dmc_address_and_length :
    sampleAddress ⟨0, 0, 0xFF, 0⟩ = 0xFFC0 ∧ sampleAddress ⟨0, 0, 0x01, 0⟩ = 0xC040 ∧
    sampleLength ⟨0, 0, 0, 0xFF⟩ = 4081 ∧ sampleLength ⟨0, 0, 0, 0x04⟩ = 65 := by decide
/-- The example of R219. -/
theorem test_dmc_fill :
    After .dmcFill (({ base with dmc.curAddr := 0xC000, dmc.remaining := 1, dmc.irqEnable := true } :
        State).setSampleByte 0xC000 0xF0)
      (fun t => decide (t.dmc.buf = 0xF0 ∧ t.dmc.bufFull = true ∧ t.dmc.curAddr = 0xC001 ∧ t.dmc.remaining = 0 ∧
        t.dmc.irqFlag = true ∧ t.obs.reads = [0xC000])) = true := by decide
/-- R219: the address wraps from 0xFFFF to 0x8000, and a looping sample restarts from the latches. -/
theorem test_dmc_fill_wraps_and_loops :
    After .dmcFill { base with dmc.curAddr := 0xFFFF, dmc.remaining := 2 }
      (fun t => decide (t.dmc.curAddr = 0x8000)) = true ∧
    After .dmcFill { base with dmc.curAddr := 0xFFFF, dmc.remaining := 1, dmc.loop := true, reg.dmc.r3 := 4 }
      (fun t => decide (t.dmc.curAddr = 0xC000 ∧ t.dmc.remaining = 65 ∧ t.dmc.irqFlag = false)) = true := by decide
/-- R222, R220, from R224: the last silent bit, then the buffered byte is taken. -/
theorem test_dmc_output_cycle :
    After .dmcOutputClock { base with dmc.bits := 1, dmc.buf := 0xF0, dmc.bufFull := true, dmc.level := 64 }
      (fun t => decide (t.dmc.bits = 8 ∧ t.dmc.shift = 0xF0 ∧ t.dmc.silence = false ∧ t.dmc.bufFull = false ∧
        t.dmc.level = 64)) = true := by decide
/-- R220, from R224: the first bit of 0xF0, a 0, takes the level from 64 to 62. -/
theorem test_dmc_output_bit :
    After .dmcOutputClock { base with dmc.shift := 0xF0, dmc.silence := false, dmc.level := 64 }
      (fun t => decide (t.dmc.bits = 7 ∧ t.dmc.shift = 0x78 ∧ t.dmc.level = 62)) = true := by decide

/-! ## Channels -/

/-- The example of R233, and the silencing by period and by length. -/
theorem test_pulse_value :
    (⟨⟨⟨8, 8⟩⟩, ⟨true, false, 2⟩, ⟨false, false, 0, true, 10, ⟨10, 0⟩⟩, SweepUnit.reset, 1, 1⟩ : Pulse).getValue .p1 =
      10 ∧
    (⟨⟨⟨7, 8⟩⟩, ⟨true, false, 2⟩, ⟨false, false, 0, true, 10, ⟨10, 0⟩⟩, SweepUnit.reset, 1, 1⟩ : Pulse).getValue .p1 =
      0 ∧
    (⟨⟨⟨8, 8⟩⟩, ⟨true, false, 0⟩, ⟨false, false, 0, true, 10, ⟨10, 0⟩⟩, SweepUnit.reset, 1, 1⟩ : Pulse).getValue .p1 =
      0 := by decide
/-- R231: the phase moves when the timer fires. -/
theorem test_pulse_clockTimer :
    After (.pulseClockTimer .p1) { base with p1.timer := ⟨⟨8, 0⟩⟩ }
      (fun t => decide (t.p1.timer = ⟨⟨8, 8⟩⟩ ∧ t.p1.phase = 1)) = true ∧
    After (.pulseClockTimer .p1) { base with p1.timer := ⟨⟨8, 8⟩⟩ }
      (fun t => decide (t.p1.timer = ⟨⟨8, 7⟩⟩ ∧ t.p1.phase = 0)) = true := by decide
/-- R236: a closed gate holds the phase but not the timer. -/
theorem test_triangle_clockTimer :
    After .triangleClockTimer { base with tri.timer := ⟨⟨2, 0⟩⟩, tri.lin := 3, tri.len.counter := 253 }
      (fun t => decide (t.tri.timer = ⟨⟨2, 2⟩⟩ ∧ t.tri.phase = 1)) = true ∧
    After .triangleClockTimer { base with tri.timer := ⟨⟨2, 0⟩⟩, tri.len.counter := 253 }
      (fun t => decide (t.tri.timer = ⟨⟨2, 2⟩⟩ ∧ t.tri.phase = 0)) = true := by decide
/-- R241, R242. -/
theorem test_noise_channel :
    After .noiseClockTimer { base with noi.timer := ⟨⟨1, 0⟩⟩ }
      (fun t => decide (t.noi.timer = ⟨⟨1, 1⟩⟩ ∧ t.noi.lfsr = 0x4000)) = true ∧
    After .noiseGetValue { base with
        noi.lfsr := 0x4000, noi.len.counter := 1, noi.env.constantMode := true, noi.env.constantLevel := 9 }
      (fun t => decide (t.obs.result = .num 9)) = true := by decide
/-- R246 with the rate of R283. -/
theorem test_dmc_clockTimer :
    After .dmcClockTimer { base with dmc.timer := ⟨⟨26, 0⟩⟩ }
      (fun t => decide (t.dmc.timer = ⟨⟨26, 26⟩⟩ ∧ t.dmc.bits = 7)) = true := by decide

/-! ## Register writes (vectors X1 to X13; the examples of R262 to R293) -/

/-- X1. -/
theorem test_write_p1r0 :
    After (.wP1R0 0xFF) enabled (fun t => decide (t.p1.duty = 3 ∧ t.p1.len.halt = true ∧
      t.p1.env = ⟨false, true, 0, true, 15, ⟨15, 0⟩⟩ ∧ t.reg.p1.r0 = 0xFF)) = true := by decide
/-- X2. -/
theorem test_write_p1r1 :
    After (.wP1R1 0xFF) enabled (fun t => decide (t.p1.sweep = ⟨true, true, true, 7, ⟨7, 0⟩⟩)) = true := by decide
/-- X4, after X1 to X3: period, counter, length, restart, phase, target and value. -/
theorem test_write_p1r3 :
    After (.wP1R3 0xFF) { enabled with
        p1.duty := 3, p1.env := ⟨false, true, 0, true, 15, ⟨15, 0⟩⟩, p1.sweep := ⟨true, true, true, 7, ⟨7, 0⟩⟩,
        p1.timer := ⟨⟨0x0FF, 0⟩⟩, p1.phase := 5 }
      (fun t => decide (t.p1.timer = ⟨⟨0x7FF, 0x7FF⟩⟩ ∧ t.p1.len.counter = 30 ∧ t.p1.env.restart = true ∧
        t.p1.phase = 0 ∧ t.p1.sweepTarget .p1 = 0x7EF ∧ t.p1.getValue .p1 = 15)) = true := by decide
/-- X10: a load while disabled does nothing; the rest of the write happens. -/
theorem test_write_p1r3_disabled :
    After (.wP1R3 0xF8) { base with p1.timer := ⟨⟨0x7FF, 1⟩⟩, p1.phase := 5 }
      (fun t => decide (t.p1.timer = ⟨⟨0x0FF, 0x0FF⟩⟩ ∧ t.p1.len.counter = 0 ∧ t.p1.env.restart = true ∧
        t.p1.phase = 0)) = true := by decide
/-- The examples of R267 and R270. -/
theorem test_write_p2 :
    After (.wP2R0 0xBF) base (fun t => decide (t.p2.duty = 2 ∧ t.p2.env = ⟨false, true, 0, true, 15, ⟨15, 0⟩⟩)) = true ∧
    After (.wP2R3 0x09) enabled (fun t => decide (t.p2.timer = ⟨⟨0x100, 0x100⟩⟩ ∧ t.p2.len.counter = 254)) = true := by
  decide
/-- X7 and the example of R276. -/
theorem test_write_triangle :
    After (.wTriR0 0xFF) base
      (fun t => decide (t.tri.control = true ∧ t.tri.len.halt = true ∧ t.tri.reloadValue = 127)) = true ∧
    After (.wTriR3 0x08) { enabled with tri.timer := ⟨⟨2, 0⟩⟩, tri.phase := 9 }
      (fun t => decide (t.tri.timer = ⟨⟨2, 2⟩⟩ ∧ t.tri.len.counter = 254 ∧ t.tri.reloadFlag = true ∧
        t.tri.phase = 9)) = true := by decide
/-- X5, X8. -/
theorem test_write_noise :
    After (.wNoiR2 0x8F) base
      (fun t => decide (t.noi.mode = true ∧ t.noi.periodIndex = 15 ∧ t.noi.timer = ⟨⟨2033, 1⟩⟩)) = true ∧
    After (.wNoiR3 0xF8) enabled
      (fun t => decide (t.noi.len.counter = 30 ∧ t.noi.env.restart = true ∧ t.noi.timer = ⟨⟨1, 1⟩⟩)) = true := by decide
/-- X6, X11. -/
theorem test_write_dmc :
    After (.wDmcR1 0xFF) base (fun t => decide (t.dmc.level = 127)) = true ∧
    After (.wDmcR0 0xCF) base (fun t => decide (t.dmc.irqEnable = true ∧ t.dmc.loop = true ∧ t.dmc.rateIndex = 15 ∧
      t.dmc.timer = ⟨⟨26, 213⟩⟩)) = true := by decide
/-- I3: clearing the enable bit clears the flag; X13: latches only. -/
theorem test_write_dmc_clears_flag :
    After (.wDmcR0 0x00) { base with dmc.irqFlag := true } (fun t => !t.dmc.irqFlag) = true ∧
    After (.wTriR1 0xAA) base (fun t => decide (t = { base with reg.tri.r1 := 0xAA })) = true := by decide +kernel
/-- X9, and the example of R290: ENABLE. -/
theorem test_write_enable :
    After (.wEnable 0x00) { enabled with p1.len.counter := 30, dmc.remaining := 5, dmc.irqFlag := true }
      (fun t => decide (t.p1.len = ⟨false, false, 0⟩ ∧ t.dmc.remaining = 0 ∧ t.dmc.irqFlag = false)) = true ∧
    After (.wEnable 0x1F) base (fun t => decide (t.noi.len.enabled = true ∧ t.dmc.bufFull = true ∧
      t.dmc.curAddr = 0xC001 ∧ t.dmc.remaining = 0)) = true := by decide
/-- I2: a one-byte sample with the enable bit set ends with the flag set. -/
theorem test_write_enable_raises :
    After (.wEnable 0x10) { base with dmc.irqEnable := true }
      (fun t => decide (t.dmc.irqFlag = true ∧ t.irqOut = true ∧ t.obs.reads = [0xC000])) = true := by decide
/-- The example of R304: the immediate clocks of `W FRAME,$C0`. -/
theorem test_write_frame :
    After (.wFrame 0xC0) { base with
        p2.len := ⟨true, false, 2⟩, p2.env := ⟨true, false, 0, false, 2, ⟨2, 0⟩⟩, fs.step := 2, fs.irqFlag := true,
        fs.div.counter := 5 }
      (fun t => decide (t.fs = ⟨.fiveStep, 0, true, false, ⟨7456, 7456⟩⟩ ∧ t.p2.len.counter = 1 ∧
        t.p2.env = ⟨false, false, 15, false, 2, ⟨2, 2⟩⟩)) = true := by decide
/-- Q2: `W FRAME,$00` fires nothing and leaves a set flag. -/
theorem test_write_frame_mode0 :
    After (.wFrame 0x00) { base with p2.len := ⟨true, false, 2⟩, fs.step := 2, fs.irqFlag := true }
      (fun t => decide (t.fs.irqFlag = true ∧ t.fs.step = 0 ∧ t.p2.len.counter = 2)) = true := by decide
/-- X12: the reserved ids change nothing. -/
theorem test_write_reserved :
    After (.wId14 0x02) enabled (fun t => decide (t = enabled)) = true ∧
    After (.wId16 0xFF) enabled (fun t => decide (t = enabled)) = true ∧
    After (.wId18To1F 7 0x00) enabled (fun t => decide (t = enabled)) = true := by
  simp [After, exec, execWId14, execWId16, execWId18To1F]

/-! ## Frame sequencer (vectors Q1 to Q4) -/

/-- Q1: the 29828th cycle, position 3. -/
theorem test_sequencer_position3 :
    After .fsClock { base with fs.step := 3, fs.div.counter := 0, noi.len := ⟨true, false, 2⟩ }
      (fun t => decide (t.fs = ⟨.fourStep, 0, false, true, ⟨7456, 7456⟩⟩ ∧ t.noi.len.counter = 1)) = true := by decide
/-- Q4: the 5-step mode's position 3 sets no flag, and its position 4 is idle and wraps. -/
theorem test_sequencer_fiveStep :
    After .fsClock { base with fs := ⟨.fiveStep, 3, false, false, ⟨7456, 0⟩⟩ }
      (fun t => decide (t.fs = ⟨.fiveStep, 4, false, false, ⟨7456, 7456⟩⟩)) = true ∧
    After .fsClock { base with fs := ⟨.fiveStep, 4, false, false, ⟨7456, 0⟩⟩, noi.len := ⟨true, false, 2⟩ }
      (fun t => decide (t.fs = ⟨.fiveStep, 0, false, false, ⟨7456, 7456⟩⟩ ∧ t.noi.len.counter = 2)) = true := by decide

/-! ## Mixer and resampler (vectors K1 to K13) -/

/-- K2, K3, K9, K12: table entries and the largest mix. -/
theorem test_mix_tables :
    tndTable 45 = mkRat 147303 576580 ∧ pulseTable 10 = mkRat 597 5705 ∧ pulseTable 30 = mkRat 1791 6955 ∧
    pulseTable 30 + tndTable 202 = mkRat 3096930587 3096991950 := by decide +kernel
/-- K1, K2, K3, K11, K12. -/
theorem test_scale :
    scaleSample 0 = -32768 ∧ scaleSample (mkRat 147303 576580) = -16026 ∧ scaleSample (mkRat 597 5705) = -25911 ∧
    scaleSample (mkRat 1653067 2226450) = 15889 ∧ scaleSample (mkRat 3096930587 3096991950) = 32765 := by
  decide +kernel
/-- K2, R324: the mix after reset. -/
theorem test_mix_at_reset :
    After .mix base (fun t => decide (t.obs.result = .rational (mkRat 147303 576580))) = true := by decide +kernel
/-- R323: the first `STEP` after reset clocks the half-rate timers, the second does not. -/
theorem test_clockTimers_cadence :
    After .clockTimers base (fun t => decide (t.phase2 = true ∧ t.noi.timer = ⟨⟨1, 0⟩⟩)) = true ∧
    After .clockTimers { base with phase2 := true } (fun t => decide (t.phase2 = false ∧ t.noi.timer = ⟨⟨1, 1⟩⟩)) =
      true := by decide +kernel
/-- K13: step 41 emits -16026 and leaves `acc` 18327 (the state before it: 40 cycles of the idle mix). -/
theorem test_step_emits :
    Steps { base with
        mix := ⟨40 * 44100, 40 * mkRat 147303 576580, 40⟩, fs.div.counter := 7416, pending := [.step] }
      (fun t => decide (t.fifo.seq = [-16026] ∧ t.mix.acc = 18327 ∧ t.mix.count = 0 ∧ t.fs.div.counter = 7415)) =
      true := by decide +kernel
/-- R330: a failed append is counted and everything else goes on. -/
theorem test_resample_drops :
    After .resample { base with
        mix := ⟨1789772, mkRat 147303 576580, 1⟩, fifo := ⟨[1, 2, 3, 4], 0, 4, 7⟩ }
      (fun t => decide (t.fifo = ⟨[1, 2, 3, 4], 0, 4, 8⟩ ∧ t.mix.acc = 44099 ∧ t.obs.emitted = [-16026])) = true := by
  decide +kernel

/-! ## StreamBuffer (vectors F1 to F10) and `RESET` -/

/-- F3 to F5, F7. -/
theorem test_fifo_append :
    (⟨[1, 2, 3, 4], 0, 4, 0⟩ : Fifo).append 5 = (⟨[1, 2, 3, 4], 0, 4, 0⟩, false) ∧
    (⟨[1, 2, 3], 3, 4, 0⟩ : Fifo).append 4 = (⟨[1, 2, 3, 4], 3, 4, 0⟩, true) ∧
    (⟨[1, 2, 3, 4], 3, 4, 0⟩ : Fifo).append 5 = (⟨[4, 5], 0, 4, 0⟩, true) ∧
    (⟨[1, 2, 3, 4], 9, 4, 0⟩ : Fifo).append 9 = (⟨[9], 0, 4, 0⟩, true) := by decide
/-- F1, F2, F9. -/
theorem test_pull :
    (⟨[1, 2, 3], 0, 4, 0⟩ : Fifo).pull = (⟨[1, 2, 3], 3, 4, 0⟩, .samples [1, 2, 3]) ∧
    (⟨[1, 2, 3], 3, 4, 0⟩ : Fifo).pull = (⟨[1, 2, 3], 3, 4, 0⟩, .noData) ∧
    (⟨[1, 2, 3], 88, 4, 0⟩ : Fifo).pull = (⟨[1, 2, 3], 88, 4, 0⟩, .noData) := by decide
/-- F8 to F10: SEEK 1, 2, 0 and 1000. -/
theorem test_seek :
    [1, 2, 0, 1000].map (fun t => ((⟨[], 0, 100, 0⟩ : Fifo).seek t).off) = [44, 88, 0, 44100] := by decide
/-- R380, R382: `RESET` restores the producer's state and keeps the FIFO. -/
theorem test_reset :
    After .reset { enabled with fifo := ⟨[1, 2], 1, 4, 3⟩, mix.acc := 9, fs.irqFlag := true }
      (fun t => decide (t = { base with fifo := ⟨[1, 2], 1, 4, 3⟩ })) = true := by decide +kernel

/-! ## Every statement's hypotheses can be met -/

/-- Any number of `STEP`s can be run from any state. -/
theorem run_steps (n : Nat) :
    ∀ s : State, ∃ t, Sys2Proof.core.run n (s.withEvents (List.replicate n .step)) = .next t := by
  induction n with
  | zero => exact fun s => ⟨_, rfl⟩
  | succ n ih =>
    intro s
    obtain ⟨t, ht⟩ := ih ({ s with pending := List.replicate n .step } : State).cycle.resample
    rw [State.withEvents_self (State.cycle_resample_pending _)] at ht
    exact ⟨t, (run_step n s _).trans ht⟩

theorem runsTo_steps (n : Nat) (s : State) : ∃ t, RunsTo s (List.replicate n .step) t := by
  unfold RunsTo
  rw [List.length_replicate]
  exact run_steps n s

theorem witness_DecodeInvertsEncode : encode (.wP1R0 0x5A) = some (.write 0x005A) := by decide
theorem witness_StepRunsTheDecodedEvent :
    ({ base with pending := [.pull, .step] } : State).pending = .pull :: [.step] ∧ base.pending = [] := ⟨rfl, rfl⟩
theorem witness_MemoryIsNeverWritten : ∃ t, exec (.wEnable 0x1F) base = .next t := ⟨_, rfl⟩
theorem witness_WritesLeaveTheOutputSideAlone :
    ∃ t u v, exec (decodeWord 0x0318) base = .next t ∧ exec (decodeWord 0x0709) base = .next u ∧
      exec (decodeWord 0x17C0) base = .next v := ⟨_, _, _, rfl, rfl, rfl⟩
theorem witness_EnableWrites : (0x0F : Byte).getLsbD 4 = false ∧ (0x1F : Byte).getLsbD 4 = true := by decide
theorem witness_ConstructionIsResetWithAnEmptyFifo :
    State.reset.fifo = { seq := [], off := 0, cap := Config.fifoCapacity, drops := 0 } ∧ State.reset.mem = [] ∧
      State.reset.pending = [] ∧ State.reset.obs = ⟨.nothing, [], [], []⟩ := ⟨rfl, rfl, rfl, rfl⟩
theorem witness_ConsumerEvents :
    base.fifo.off ≥ base.fifo.seq.length ∧
      ({ base with fifo.seq := [7] } : State).fifo.off < ({ base with fifo.seq := [7] } : State).fifo.seq.length := by
  decide
theorem witness_FifoAppend :
    base.fifo.seq.length < base.fifo.cap ∧
    (∃ s : State, s.fifo.cap ≤ s.fifo.seq.length ∧ s.fifo.off ≠ 0) ∧
    (∃ s : State, s.fifo.cap ≤ s.fifo.seq.length ∧ s.fifo.off = 0) := by
  refine ⟨by decide, ⟨{ base with fifo := ⟨[1, 2], 1, 2, 0⟩ }, by decide⟩, ⟨{ base with fifo := ⟨[1, 2], 0, 2, 0⟩ }, by decide⟩⟩
theorem witness_DividerOperations :
    (base.divider (.env .p1)).counter = 0 ∧ (base.divider .fs).counter ≠ 0 := by decide
theorem witness_TimerOperations :
    (base.timer .tri).div.period.toNat < (if TimerId.tri = .tri then 2 else 0) ∧
    (if TimerId.dmc = .tri then 2 else 0) ≤ (base.timer .dmc).div.period.toNat ∧
    (if TimerId.tri = .tri then 2 else 0) ≤
      (({ base with tri.timer.div.period := 2 } : State).timer .tri).div.period.toNat := by decide
theorem witness_EnvelopeOperations :
    (({ base with p1.env.restart := true } : State).env .p1).restart = true ∧
    ((base.env .p1).restart = false ∧ (base.env .p1).div.counter = 0) ∧
    ((({ base with noi.env.div.counter := 1 } : State).env .noi).restart = false ∧
      (({ base with noi.env.div.counter := 1 } : State).env .noi).div.counter ≠ 0) := by decide
theorem witness_EnvelopeDecay :
    (⟨true, true, 0, false, 2, ⟨2, 0⟩⟩ : Envelope).restart = true ∧
      (⟨true, true, 0, false, 2, ⟨2, 0⟩⟩ : Envelope).constantMode = false := by decide
/-- Both clauses, the second at the largest target that is not silenced (W12). -/
theorem witness_SweepRetune :
    ¬ Retunes .p1 base.p1 ∧
    Retunes .p1 ({ base with
      p1.sweep := ⟨true, false, false, 1, ⟨0, 0⟩⟩, p1.timer := ⟨⟨0x555, 0⟩⟩ } : State).p1 := by
  simp only [Retunes, targetOf]
  decide
theorem witness_DmcMemoryReader :
    base.dmc.remaining = 0 ∧
    (∃ d : Dmc, d.bufFull = false ∧ d.remaining ≠ 0 ∧ d.remaining ≠ 1) ∧
    (∃ d : Dmc, d.bufFull = false ∧ d.remaining = 1 ∧ d.loop = true) ∧
    (∃ d : Dmc, d.bufFull = false ∧ d.remaining = 1 ∧ d.loop = false) :=
  ⟨rfl, ⟨{ Dmc.reset with remaining := 2 }, by decide⟩, ⟨{ Dmc.reset with remaining := 1, loop := true }, by decide⟩,
    ⟨{ Dmc.reset with remaining := 1 }, by decide⟩⟩
theorem witness_DmcOutputUnit :
    base.dmc.bufFull = false ∧ ({ base with dmc.bufFull := true } : State).dmc.bufFull = true ∧ base.dmc.bits ≠ 0 ∧
      ({ base with dmc.bits := 1 } : State).dmc.bits = 1 := by decide
theorem witness_PulseClocks :
    (base.pulse .p1).timer.div.counter = 0 ∧
      (({ base with p2.timer.div.counter := 1 } : State).pulse .p2).timer.div.counter ≠ 0 := by decide
theorem witness_TriangleClocks :
    base.tri.timer.div.period.toNat < 2 ∧
    (∃ t : Triangle, 2 ≤ t.timer.div.period.toNat ∧ t.timer.div.counter ≠ 0) ∧
    (∃ t : Triangle, 2 ≤ t.timer.div.period.toNat ∧ t.timer.div.counter = 0) :=
  ⟨by decide, ⟨{ Triangle.reset with timer := ⟨⟨2, 1⟩⟩ }, by decide⟩, ⟨{ Triangle.reset with timer := ⟨⟨2, 0⟩⟩ }, by decide⟩⟩
theorem witness_NoiseAndDmcClocks :
    base.noi.timer.div.counter ≠ 0 ∧ base.dmc.timer.div.counter ≠ 0 ∧
    ({ base with noi.timer.div.counter := 0 } : State).noi.timer.div.counter = 0 ∧
    ({ base with dmc.timer.div.counter := 0 } : State).dmc.timer.div.counter = 0 := by decide
/-- The last position of each mode. -/
theorem witness_SequencerOperations :
    base.fs.div.counter ≠ 0 ∧
    (∃ f : FrameSequencer, f.div.counter = 0 ∧ f.step = 3 ∧ f.step.toNat < f.mode.positions) ∧
    (∃ f : FrameSequencer, f.div.counter = 0 ∧ f.step = 4 ∧ f.step.toNat < f.mode.positions) :=
  ⟨by decide, ⟨⟨.fourStep, 3, false, false, ⟨7456, 0⟩⟩, by decide⟩, ⟨⟨.fiveStep, 4, false, false, ⟨7456, 0⟩⟩, by decide⟩⟩
theorem witness_SequencerTiming :
    base.fs.div.period = 7456 ∧ base.fs.div.counter.toNat ≤ 7456 ∧ base.fs.step.toNat < base.fs.mode.positions ∧
      ∃ t, RunsTo base (List.replicate 7457 .step) t := ⟨by decide, by decide, by decide, runsTo_steps _ _⟩
/-- A step that sets the frame interrupt flag, and one that clears it. -/
theorem witness_FrameInterruptFlag :
    Steps { base with fs.step := 3, fs.div.counter := 0, pending := [.step] } (fun t => t.fs.irqFlag) = true ∧
    Steps { base with fs.irqFlag := true, pending := [.write 0x1740] } (fun t => !t.fs.irqFlag) = true := by
  decide +kernel
/-- Steps that set the sample-playback interrupt flag, and one that clears it. -/
theorem witness_DmcInterruptFlag :
    Steps { base with dmc.irqEnable := true, pending := [.write 0x1510] } (fun t => t.dmc.irqFlag) = true ∧
    Steps { base with
        dmc.irqEnable := true, dmc.bufFull := true, dmc.remaining := 1, dmc.bits := 1, dmc.timer.div.counter := 0,
        pending := [.step] } (fun t => t.dmc.irqFlag) = true ∧
    Steps { base with dmc.irqFlag := true, pending := [.write 0x1000] } (fun t => !t.dmc.irqFlag) = true := by
  decide +kernel
theorem witness_InterruptFlagsAreLevels :
    ∃ t u, exec (.wFrame 0x40) { base with fs.irqFlag := true } = .next t ∧
      exec (.wFrame 0x40) (flagsCleared { base with fs.irqFlag := true }) = .next u := ⟨_, _, rfl, rfl⟩
theorem witness_ClockTimersCadence : base.phase2 = false ∧ ({ base with phase2 := true } : State).phase2 = true :=
  ⟨rfl, rfl⟩
theorem witness_ScaleValue : (Instr.scale (mkRat 3096930587 3096991950)).wellFormed = true := by decide +kernel
/-- Both clauses at the boundary of the threshold. -/
theorem witness_ResampleOperation :
    ({ base with mix.acc := 1745672 } : State).mix.acc + 44100 < 1789773 ∧
    (1789773 ≤ ({ base with mix := ⟨1745673, 0, 1⟩ } : State).mix.acc + 44100 ∧
      ({ base with mix := ⟨1745673, 0, 1⟩ } : State).mix.count ≠ 0) := by decide
/-- From any accumulator, and the first sample: `STEP` 41 is `ceil(1789773 / 44100)`. -/
theorem witness_EmissionRate :
    (base.mix.acc < 1789773 ∧ ∃ t, RunsTo base (List.replicate 3 .step) t) ∧
    (40 + 1 = (1 * 1789773 + 44099) / 44100 ∧ (∃ t, RunsTo State.reset (List.replicate 40 .step) t) ∧
      ∃ u, RunsTo State.reset (List.replicate (40 + 1) .step) u) :=
  ⟨⟨by decide, runsTo_steps _ _⟩, by decide, runsTo_steps _ _, runsTo_steps _ _⟩
theorem witness_AppendThenPull :
    (∃ f : Fifo, f.seq = [] ∧ f.off = 0 ∧ [(1 : Sample), 2, 3, 4].length ≤ f.cap) ∧
    (∃ f : Fifo, f.seq.length = f.cap ∧ f.off = 0) ∧ (∃ f : Fifo, f.off = f.seq.length) :=
  ⟨⟨⟨[], 0, 4, 0⟩, by decide⟩, ⟨⟨[1, 2], 0, 2, 0⟩, by decide⟩, ⟨⟨[1, 2], 2, 2, 0⟩, by decide⟩⟩
/-- A full FIFO half delivered, about to be pulled. -/
theorem witness_FifoKeepsEmissionOrder :
    ∃ s t : State, InEmissionOrder s ∧ (∀ n, s.pending.head? ≠ some (.seek n)) ∧ step s = .next t := by
  refine ⟨{ base with
    fifo := ⟨[1, 2, 4], 1, 3, 1⟩, obs := ⟨.nothing, [], [1, 2, 3, 4], [1]⟩, pending := [.pull] }, _, ?_, ?_, rfl⟩
  · exact ⟨by decide, by decide⟩
  · intro n h
    cases h
theorem witness_ProducerIsIndependentOfConsumer :
    base.producerView = ({ base with fifo := ⟨[1], 0, 1, 5⟩ } : State).producerView ∧
    [Event.step, .pull, .step].filter Event.isProducer = [Event.seek 2, .step, .step].filter Event.isProducer :=
  ⟨rfl, by decide⟩
theorem witness_ConsumerInsideStep :
    (Event.seek 1).isProducer = false ∧ ∃ u, exec (decodeEvent (.seek 1)) base = .next u := ⟨rfl, _, rfl⟩

/-- A sounding state: all enables set and the sample-playback channel running, with a `STEP` to come. -/
def running : State := { enabled with
  dmc.bufFull := true, dmc.remaining := 4081, dmc.curAddr := 0xFFFF, fs.step := 3, fs.div.counter := 0,
  mix := ⟨1789772, 0, 40⟩, fifo := ⟨[-32768, 32767], 5, 4, 0⟩, pending := [.step] }

theorem witness_SoundIsKept : Sound running ∧ ∃ t, step running = .next t := by
  refine ⟨⟨⟨?_, ?_, ?_, ?_, rfl, rfl, rfl, rfl, rfl, rfl, rfl, by decide⟩, ⟨by decide, by decide, by decide, by decide, by decide, ?_⟩,
    ⟨by decide, rfl, by decide⟩, ⟨by decide, by decide, by decide +kernel, by decide +kernel⟩,
    ⟨by decide, by decide, by decide, ?_⟩, rfl⟩, _, rfl⟩
  all_goals first | exact ⟨by decide, by decide⟩ | (intro x hx; cases hx)

theorem witness_LatchesStayInAgreement :
    ∃ s t : State, FieldsFollowLatches s ∧ s.pending = [.write 0x01FF] ∧ step s = .next t := by
  refine ⟨{ base with reg.p1.r1 := 0x81, p1.sweep := ⟨true, false, true, 1, ⟨0, 0⟩⟩, pending := [.write 0x01FF] }, _,
    ?_, rfl, rfl⟩
  constructor <;> rfl

end Sys2Proof.Tests
end

/-! # The memory family: the order of events and the two agents on the FIFO (R80, R83, R85) -/

namespace Sys2Proof.Machine

/-! ## The step of the machine -/

theorem step_of_pending_nil {s : State} (h : s.pending = []) : step s = .next s := by
  simp [step, State.fetch_nil s h]

theorem step_of_pending_cons {s : State} {e : Event} {rest : List Event} (h : s.pending = e :: rest) :
    step s = exec (decodeEvent e) { s with pending := rest } := by
  simp [step, State.fetch_cons s e rest h]

/-- Settles O6: the two cases of what has been issued. -/
theorem stepRunsTheDecodedEvent : Obligations.StepRunsTheDecodedEvent :=
  fun _ => ⟨fun _ _ => step_of_pending_cons, step_of_pending_nil⟩

/-! ## The body of a `STEP` does not look at the consumer's side -/

@[simp] theorem State.cycle_fifo (s : State) : s.cycle.fifo = s.fifo := by simp [State.cycle]
@[simp] theorem State.cycle_result (s : State) : s.cycle.obs.result = s.obs.result := by simp [State.cycle]
@[simp] theorem State.cycle_emitted (s : State) : s.cycle.obs.emitted = s.obs.emitted := by simp [State.cycle]
@[simp] theorem State.cycle_delivered (s : State) : s.cycle.obs.delivered = s.obs.delivered := by
  simp [State.cycle]

/-- `s` with what a consumer operation may replace: the FIFO, the value returned, and the samples delivered. -/
def State.withConsumerSide (s : State) (f : Fifo) (r : Result) (d : List Sample) : State :=
  { s with fifo := f, obs.result := r, obs.delivered := d }

/-- A `STEP` is its cycle, which ends before the append, and then the resampler (R321). -/
theorem exec_step (s : State) : exec .step s = .next s.cycle.resample := rfl

/-- `PULL` replaces the consumer's side and nothing else (R342). -/
theorem exec_pull (s : State) : exec .pull s =
    .next (s.withConsumerSide s.fifo.pull.1 s.fifo.pull.2 (s.obs.delivered ++ s.fifo.unread)) := rfl

/-- `SEEK` replaces the consumer's side and nothing else (R343). -/
theorem exec_seek (n : Nat) (s : State) : exec (.seek n) s =
    .next (s.withConsumerSide (s.fifo.seek n) s.obs.result s.obs.delivered) := rfl

section
variable (s : State) (f : Fifo) (r : Result) (d : List Sample)

@[simp] theorem State.withConsumerSide_fs : (s.withConsumerSide f r d).fs = s.fs := rfl

theorem State.clockQuarterFrameAll_withConsumerSide :
    (s.withConsumerSide f r d).clockQuarterFrameAll = s.clockQuarterFrameAll.withConsumerSide f r d := rfl

theorem State.clockHalfFrameAll_withConsumerSide :
    (s.withConsumerSide f r d).clockHalfFrameAll = s.clockHalfFrameAll.withConsumerSide f r d := rfl

theorem State.doPosition_withConsumerSide (q h i : Bool) :
    (s.withConsumerSide f r d).doPosition q h i = (s.doPosition q h i).withConsumerSide f r d := by
  cases q <;> cases h <;> by_cases hi : i = true ∧ s.fs.irqInhibit = false <;>
    simp [State.doPosition, State.clockQuarterFrameAll_withConsumerSide, State.clockHalfFrameAll_withConsumerSide, hi]
      <;> rfl

theorem State.runPosition_withConsumerSide :
    (s.withConsumerSide f r d).runPosition = s.runPosition.withConsumerSide f r d := by
  have h := s.doPosition_withConsumerSide f r d (fsPattern s.fs.mode s.fs.step.toNat).1
    (fsPattern s.fs.mode s.fs.step.toNat).2.1 (fsPattern s.fs.mode s.fs.step.toNat).2.2
  exact congrArg (fun t : State => { t with fs.step := t.fs.nextStep }) h

theorem State.fsClock_withConsumerSide :
    (s.withConsumerSide f r d).fsClock = s.fsClock.withConsumerSide f r d := by
  cases h : s.fs.div.clock.2 with
  | false => simp [State.fsClock, State.withConsumerSide, h]
  | true =>
    have hrun := State.runPosition_withConsumerSide { s with fs.div := s.fs.div.clock.1 } f r d
    simpa [State.fsClock, State.withConsumerSide, h] using hrun

theorem State.clockTimers_withConsumerSide :
    (s.withConsumerSide f r d).clockTimers = s.clockTimers.withConsumerSide f r d := by
  obtain ⟨_, _, _, _, _, _, _, _, phase2, _, _, _, _⟩ := s
  cases phase2 <;> rfl

/-- Everything of a `STEP` before the resampler commutes with a change of the consumer's side. -/
theorem State.cycle_withConsumerSide :
    (s.withConsumerSide f r d).cycle = s.cycle.withConsumerSide f r d := by
  simp only [State.cycle, State.fsClock_withConsumerSide, State.clockTimers_withConsumerSide]
  rfl

end

/-- Settles O57: a consumer operation reads and replaces the consumer's side alone, which the `STEP` up to its append
neither reads nor writes. -/
theorem consumerInsideStep : Obligations.ConsumerInsideStep := by
  intro c s u hc hu
  refine ⟨?_, exec_step s⟩
  cases c with
  | write | step | reset => cases hc
  | pull =>
    obtain rfl := Host.Outcome.next.inj ((exec_pull s).symm.trans hu)
    simp [decodeEvent, exec_pull, State.cycle_withConsumerSide]
  | seek n =>
    obtain rfl := Host.Outcome.next.inj ((exec_seek n s).symm.trans hu)
    simp [decodeEvent, exec_seek, State.cycle_withConsumerSide]

/-! ## Emission order (R85) -/

/-- An append, compacting or not, repeats and reorders nothing unread, adds at most the sample offered, at the end,
and keeps the offset within the sequence (R341). -/
theorem Fifo.append_unread {f : Fifo} (x : Sample) (h : f.off ≤ f.seq.length) :
    (f.append x).1.unread.Sublist (f.unread ++ [x]) ∧ (f.append x).1.off ≤ (f.append x).1.seq.length := by
  by_cases hc : f.seq.length < f.cap
  · simp only [Fifo.append_stores hc, Fifo.unread, List.drop_append_of_le_length h, List.length_append]
    exact ⟨.refl _, by omega⟩
  · by_cases ho : f.off = 0
    · rw [Fifo.append_fails (by omega) ho]
      exact ⟨List.sublist_append_left _ _, h⟩
    · simp [Fifo.append_compacts (by omega) ho, Fifo.unread, h]

/-- A pull leaves nothing unread. -/
theorem Fifo.pull_unread (f : Fifo) : f.pull.1.unread = [] := by
  by_cases h : f.off < f.seq.length
  · simp [Fifo.pull_remainder h, Fifo.unread]
  · rw [Fifo.pull_nothing (Nat.le_of_not_lt h)]
    exact List.drop_eq_nil_of_le (Nat.le_of_not_lt h)

theorem Fifo.pull_off_le {f : Fifo} (h : f.off ≤ f.seq.length) : f.pull.1.off ≤ f.pull.1.seq.length := by
  by_cases hlt : f.off < f.seq.length
  · simp [Fifo.pull_remainder hlt]
  · rwa [Fifo.pull_nothing (Nat.le_of_not_lt hlt)]

/-- `t` has the FIFO of `s`, and the same samples were emitted and delivered. -/
structure State.SameStream (s t : State) : Prop where
  fifo : t.fifo = s.fifo
  emitted : t.obs.emitted = s.obs.emitted
  delivered : t.obs.delivered = s.obs.delivered

theorem State.SameStream.inEmissionOrder {s t : State} (hst : s.SameStream t) (h : InEmissionOrder s) :
    InEmissionOrder t := by
  unfold InEmissionOrder
  rw [hst.fifo, hst.emitted, hst.delivered]
  exact h

/-- No register write touches the stream (R260). -/
theorem exec_write_sameStream (w : WriteWord) (s t : State) (h : exec (decodeWord w) s = .next t) :
    s.SameStream t := by
  unfold decodeWord at h
  split at h <;> cases h <;> constructor <;> simp [State.writeLengthEnables]

theorem State.cycle_sameStream (s : State) : s.SameStream s.cycle where
  fifo := s.cycle_fifo
  emitted := s.cycle_emitted
  delivered := s.cycle_delivered

/-- A sample that an emission stores comes after everything unread, as it comes after everything emitted. -/
theorem State.emit_inEmissionOrder {s : State} (h : InEmissionOrder s) : InEmissionOrder s.emit := by
  obtain ⟨hsub, hoff⟩ := h
  obtain ⟨hunread, hoff'⟩ := Fifo.append_unread (scaleSample s.mix.average) hoff
  rw [State.emit_eq]
  have hkept : (s.obs.delivered ++ s.fifo.unread ++ [scaleSample s.mix.average]).Sublist
      (s.obs.emitted ++ [scaleSample s.mix.average]) := hsub.append_right _
  rw [List.append_assoc] at hkept
  exact ⟨(hunread.append_left _).trans hkept, hoff'⟩

theorem State.resample_inEmissionOrder {s : State} (h : InEmissionOrder s) : InEmissionOrder s.resample := by
  by_cases he : Config.cpuHz ≤ s.mix.acc + Config.sampleRate
  · rw [State.resample_emits he]
    exact State.emit_inEmissionOrder h
  · rw [State.resample_within (by omega)]
    exact h

/-- What is delivered by a pull was unread before it and is not unread after it. -/
theorem exec_pull_inEmissionOrder {s t : State} (h : InEmissionOrder s) (ht : exec .pull s = .next t) :
    InEmissionOrder t := by
  obtain ⟨hsub, hoff⟩ := h
  obtain rfl := Host.Outcome.next.inj ((exec_pull s).symm.trans ht)
  refine ⟨?_, Fifo.pull_off_le hoff⟩
  change ((s.obs.delivered ++ s.fifo.unread) ++ s.fifo.pull.1.unread).Sublist s.obs.emitted
  rw [Fifo.pull_unread, List.append_nil]
  exact hsub

/-- Every event but a `SEEK` keeps the emission order. -/
theorem exec_event_inEmissionOrder {e : Event} {s t : State} (he : ∀ n, e ≠ .seek n) (h : InEmissionOrder s)
    (ht : exec (decodeEvent e) s = .next t) : InEmissionOrder t := by
  cases e with
  | write w => exact (exec_write_sameStream w s t ht).inEmissionOrder h
  | step =>
    obtain rfl := Host.Outcome.next.inj ((exec_step s).symm.trans ht)
    exact State.resample_inEmissionOrder (s.cycle_sameStream.inEmissionOrder h)
  | reset =>
    cases ht
    exact h
  | pull => exact exec_pull_inEmissionOrder h ht
  | seek n => exact absurd rfl (he n)

/-- Settles O55: by cases of the event taken; only a `STEP` that emits and a `PULL` move samples. -/
theorem fifoKeepsEmissionOrder : Obligations.FifoKeepsEmissionOrder := by
  intro s t h hseek hstep
  obtain ⟨-, ht⟩ | ⟨e, rest, hp, ht⟩ := step_cases hstep
  · obtain rfl := Host.Outcome.next.inj ht
    exact h
  · have he : ∀ n, e ≠ .seek n := fun n hn => hseek n (by simp [hp, hn])
    have hrest : InEmissionOrder { s with pending := rest } := h
    exact exec_event_inEmissionOrder he hrest ht.symm

end Sys2Proof.Machine

/-! # The encoding family: the 13-bit word, the decoder and the encoder, the fields (R100 to R127) -/

namespace Sys2Proof

/-! ## A transaction word is its id and its byte (R101) -/

@[simp] theorem wordId_packWord (id : RegId) (b : Byte) : wordId (packWord id b) = id :=
  BitVec.extractLsb'_append_eq_left

@[simp] theorem wordByte_packWord (id : RegId) (b : Byte) : wordByte (packWord id b) = b :=
  BitVec.extractLsb'_append_eq_right

@[simp] theorem packWord_wordId_wordByte (w : WriteWord) : packWord (wordId w) (wordByte w) = w := by
  have h : wordId w ++ wordByte w = w.extractLsb' 0 13 := BitVec.extractLsb'_append_extractLsb'_eq_extractLsb' rfl
  exact h.trans BitVec.extractLsb'_eq_self

theorem packWord_toNat (id : RegId) (b : Byte) : (packWord id b).toNat = 256 * id.toNat + b.toNat := by
  rw [packWord, BitVec.toNat_append, ← Nat.shiftLeft_add_eq_or_of_lt b.isLt, Nat.shiftLeft_eq, Nat.mul_comm]

theorem packWord_eq_of_wordId_toNat {w : WriteWord} {n : Nat} (h : (wordId w).toNat = n) :
    packWord (BitVec.ofNat 5 n) (wordByte w) = w := by
  rw [← h, BitVec.ofNat_toNat, BitVec.setWidth_eq, packWord_wordId_wordByte]

/-! ## The reserved ids 0x18 to 0x1F (R293) -/

/-- A reserved id is the two bits of the row's mask, set, over the three bits that are any value. -/
theorem reservedId_eq_append (id : RegId) : 24 ≤ id.toNat → 0b11#2 ++ id.extractLsb' 0 3 = id := by
  revert id
  decide

theorem reservedId_eq_add (low : BitVec 3) : 0x18 + low.setWidth 5 = 0b11#2 ++ low := by
  revert low
  decide

theorem reservedId_toNat_ge (low : BitVec 3) : 24 ≤ (0b11#2 ++ low).toNat := by
  revert low
  decide

/-- Bits 10:8 of a word are bits 2:0 of its id. -/
theorem wordId_low (w : WriteWord) : (wordId w).extractLsb' 0 3 = w.extractLsb' 8 3 := by
  ext i hi
  simp [wordId, show i < 5 by omega]

theorem packWord_of_reserved {w : WriteWord} (h : 24 ≤ (wordId w).toNat) :
    packWord (0b11#2 ++ w.extractLsb' 8 3) (wordByte w) = w := by
  rw [← wordId_low, reservedId_eq_append _ h, packWord_wordId_wordByte]

theorem decodeWord_of_reserved {w : WriteWord} (h : 24 ≤ (wordId w).toNat) :
    decodeWord w = .wId18To1F (w.extractLsb' 8 3) (wordByte w) := by
  obtain ⟨n, hn⟩ := Nat.exists_eq_add_of_le' h
  simp only [decodeWord, hn]

theorem decodeWord_packWord_reserved (low : BitVec 3) (b : Byte) :
    decodeWord (packWord (0b11#2 ++ low) b) = .wId18To1F low b := by
  have hid : 24 ≤ (wordId (packWord (0b11#2 ++ low) b)).toNat := by
    rw [wordId_packWord]
    exact reservedId_toNat_ge low
  have hlow : (packWord (0b11#2 ++ low) b).extractLsb' 8 3 = low := by
    rw [← wordId_low, wordId_packWord]
    exact BitVec.extractLsb'_append_eq_right
  rw [decodeWord_of_reserved hid, hlow, wordByte_packWord]

/-! ## The decoder and the encoder on words -/

/-- The decoder on the encoder's words, one case for each `W` row: below 0x18 the id selects the register, and the
ids from there on are the reserved row. -/
theorem decodeWord_of_encodeWord {i : Instr} {w : WriteWord} (h : encodeWord i = some w) : decodeWord w = i := by
  cases i with
  | wP1R0 | wP1R1 | wP1R2 | wP1R3 | wP2R0 | wP2R1 | wP2R2 | wP2R3
  | wTriR0 | wTriR1 | wTriR2 | wTriR3 | wNoiR0 | wNoiR1 | wNoiR2 | wNoiR3
  | wDmcR0 | wDmcR1 | wDmcR2 | wDmcR3 | wId14 | wEnable | wId16 | wFrame =>
    obtain rfl := Option.some.inj h
    simp [decodeWord]
  | wId18To1F low b =>
    obtain rfl := Option.some.inj h
    exact decodeWord_packWord_reserved low b
  | _ => cases h

/-- Each branch of the decoder names the row whose id it has tested for. -/
theorem encodeWord_decodeWord (w : WriteWord) : encodeWord (decodeWord w) = some w := by
  unfold decodeWord
  split
  case h_25 =>
    have hid : 24 ≤ (wordId w).toNat := by
      simp only [imp_false] at *
      omega
    exact congrArg some (packWord_of_reserved hid)
  all_goals exact congrArg some (packWord_eq_of_wordId_toNat ‹_›)

/-! ## The events -/

theorem encode_of_encodeWord {i : Instr} {w : WriteWord} (h : encodeWord i = some w) : encode i = some (.write w) := by
  cases i with
  | step | reset | pull | seek => cases h
  | _ => exact congrArg (Option.map Event.write) h

theorem encode_decodeEvent (e : Event) : encode (decodeEvent e) = some e := by
  cases e with
  | write w => exact encode_of_encodeWord (encodeWord_decodeWord w)
  | step | reset | pull | seek => rfl

theorem isExternal_decodeWord (w : WriteWord) : (decodeWord w).isExternal = true := by
  unfold decodeWord
  split <;> rfl

theorem isExternal_decodeEvent (e : Event) : (decodeEvent e).isExternal = true := by
  cases e with
  | write w => exact isExternal_decodeWord w
  | step | reset | pull | seek => rfl

theorem wellFormed_of_isExternal {i : Instr} (h : i.isExternal = true) : i.wellFormed = true := by
  cases i with
  | scale | fifoAppend => cases h
  | _ => rfl

/-- Settles O1: an event is encoded as itself, and a register write through its word. -/
theorem decodeInvertsEncode : Obligations.DecodeInvertsEncode := by
  intro i e h
  unfold encode at h
  split at h
  case h_5 =>
    obtain ⟨w, hw, rfl⟩ := Option.map_eq_some_iff.mp h
    exact decodeWord_of_encodeWord hw
  all_goals
    obtain rfl := Option.some.inj h
    rfl

/-- Settles O2. -/
theorem encodeInvertsDecode : Obligations.EncodeInvertsDecode := fun e =>
  ⟨encode_decodeEvent e, isExternal_decodeEvent e, wellFormed_of_isExternal (isExternal_decodeEvent e)⟩

/-! ## The rows of the operation table (R127) -/

theorem wordByte_mask_of_mem_writeRows : ∀ r ∈ writeRows, wordByte r.mask = 0 := by decide

theorem packWord_and_packWord (id id' : RegId) (b b' : Byte) :
    packWord id b &&& packWord id' b' = packWord (id &&& id') (b &&& b') :=
  BitVec.and_append

/-- A row whose mask has no bit of the byte does not look at the byte. -/
theorem Row.covers_packWord {r : Row} (h : wordByte r.mask = 0) (id : RegId) (b b' : Byte) :
    r.covers (packWord id b) = r.covers (packWord id b') := by
  have hmask : r.mask = packWord (wordId r.mask) 0 := by
    rw [← h]
    exact (packWord_wordId_wordByte r.mask).symm
  unfold Row.covers
  rw [hmask]
  simp [packWord_and_packWord]

/-- The masked rows partition the 32 ids. -/
theorem existsUnique_row_covers_id (id : RegId) : ∃ r ∈ writeRows, r.covers (packWord id 0) = true ∧
    ∀ r' ∈ writeRows, r'.covers (packWord id 0) = true → r' = r := by
  revert id
  decide

theorem existsUnique_row_covers (w : WriteWord) : ∃ r ∈ writeRows, r.covers w = true ∧
    ∀ r' ∈ writeRows, r'.covers w = true → r' = r := by
  have hw : ∀ r ∈ writeRows, r.covers w = r.covers (packWord (wordId w) 0) := by
    intro r hr
    rw [← Row.covers_packWord (wordByte_mask_of_mem_writeRows r hr) (wordId w) (wordByte w),
      packWord_wordId_wordByte]
  obtain ⟨r, hr, hcov, huniq⟩ := existsUnique_row_covers_id (wordId w)
  exact ⟨r, hr, (hw r hr).trans hcov, fun r' hr' hcov' => huniq r' hr' ((hw r' hr').symm.trans hcov')⟩

/-- Settles O3: each of these words is what the encoder makes of the write it decodes to. -/
theorem registerIdsDecode : Obligations.RegisterIdsDecode := by
  refine ⟨fun b low => ⟨fun id => packWord_toNat id b, ?_⟩, existsUnique_row_covers⟩
  rw [reservedId_eq_add]
  and_intros <;> exact decodeWord_of_encodeWord rfl

/-! ## Numbers -/

theorem decodeNat_of_lt {n : Nat} (h : n < 2 ^ 13) : decodeNat n = .ok (decodeWord (BitVec.ofNat 13 n)) := if_pos h

theorem decodeNat_of_le {n : Nat} (h : 2 ^ 13 ≤ n) : decodeNat n = .error .widerThan13Bits :=
  if_neg (Nat.not_lt.mpr h)

/-- Settles O4: closed facts, the decoder run on each word. -/
theorem writtenWordsDecode : Obligations.WrittenWordsDecode := by
  refine ⟨?_, ?_, ?_, ?_, ?_, ?_, ?_, ?_, ?_, decodeNat_of_le (Nat.le_refl _), rfl, rfl, rfl, rfl⟩ <;>
    exact decodeNat_of_lt (by decide)

namespace Machine

/-! ## The register fields and the constant tables (R104 to R122) -/

/-- A field of `n` bits from bit `s` up, read as an unsigned integer (R122). -/
theorem byteField_toNat (b : Byte) (s n : Nat) : (b.extractLsb' s n).toNat = b.toNat / 2 ^ s % 2 ^ n := by
  rw [BitVec.extractLsb'_toNat, Nat.shiftRight_eq_div_pow]

/-- A field of one bit, read as an unsigned integer (R122). -/
theorem byteFlag_toNat (b : Byte) (i : Nat) : (b.getLsbD i).toNat = b.toNat / 2 ^ i % 2 :=
  Nat.toNat_testBit b.toNat i

/-- A field that ends at bit 7 needs no reduction. -/
theorem byteTopField_toNat (b : Byte) (s n : Nat) (h : s + n = 8) : (b.extractLsb' s n).toNat = b.toNat / 2 ^ s := by
  rw [byteField_toNat, Nat.mod_eq_of_lt]
  rw [Nat.div_lt_iff_lt_mul (Nat.two_pow_pos s), ← Nat.pow_add, Nat.add_comm n, h]
  exact b.isLt

theorem byteTopFlag_toNat (b : Byte) : (b.getLsbD 7).toNat = b.toNat / 128 := by
  have := b.isLt
  rw [byteFlag_toNat]
  omega

theorem byteLowField_toNat (b : Byte) (n : Nat) : (b.extractLsb' 0 n).toNat = b.toNat % 2 ^ n := by
  rw [byteField_toNat, Nat.pow_zero, Nat.div_one]

theorem byteLowFlag_toNat (b : Byte) : (b.getLsbD 0).toNat = b.toNat % 2 := by
  rw [byteFlag_toNat, Nat.pow_zero, Nat.div_one]

/-- Settles O5: each field is a field of the byte at its position, and the tables are run entry by entry. -/
theorem fieldsAndConstantTables : Obligations.FieldsAndConstantTables := by
  refine ⟨fun b => ?_, by decide, by decide, by decide, by decide, by decide, by decide, by decide⟩
  exact ⟨byteTopField_toNat b 6 2 rfl, byteFlag_toNat b 5, byteFlag_toNat b 4, byteLowField_toNat b 4,
    byteTopFlag_toNat b, byteField_toNat b 4 3, byteFlag_toNat b 3, byteLowField_toNat b 3,
    byteTopField_toNat b 3 5 rfl, byteLowField_toNat b 3,
    byteTopFlag_toNat b, byteLowField_toNat b 7,
    byteTopFlag_toNat b, byteLowField_toNat b 4,
    byteTopFlag_toNat b, byteFlag_toNat b 6, byteLowField_toNat b 4, byteLowField_toNat b 7,
    byteLowFlag_toNat b, byteFlag_toNat b 1, byteFlag_toNat b 2, byteFlag_toNat b 3, byteFlag_toNat b 4,
    byteTopFlag_toNat b, byteFlag_toNat b 6⟩

end Machine

end Sys2Proof

/-! # The divider family: the Divider and the Timer (R140 to R150) -/

namespace Sys2Proof.Machine

/-! ## One clock of a Divider, on unsigned integers (R143) -/

/-- Counting down from a counter that is not 0 does not underflow (R143). -/
theorem toNat_sub_one_of_ne_zero {w : Nat} {c : BitVec w} (h : c ≠ 0) : (c - 1).toNat = c.toNat - 1 := by
  have hpos : 0 < c.toNat := c.toNat_pos.mpr (c.pos_iff_ne_zero.mpr h)
  have hone : (1 : BitVec w).toNat = 1 := BitVec.toNat_one (BitVec.length_pos_of_ne h)
  have hfits : ¬ c.usubOverflow 1 := by
    rw [BitVec.usubOverflow, decide_eq_true_eq, hone]
    omega
  rw [BitVec.toNat_sub_of_not_usubOverflow hfits, hone]

theorem Divider.clock_fired_iff {w : Nat} (d : Divider w) : d.clock.2 = true ↔ d.counter = 0 := by
  by_cases h : d.counter = 0
  · simp only [Divider.clock_fires h, h]
  · simp only [Divider.clock_counts h, h, Bool.false_eq_true]

/-- No clock takes the counter above the larger of the period and the counter. -/
theorem Divider.clock_counter_le {w : Nat} (d : Divider w) :
    d.clock.1.counter.toNat ≤ max d.period.toNat d.counter.toNat := by
  by_cases h : d.counter = 0
  · simp only [Divider.clock_fires h, Nat.le_max_left]
  · simp only [Divider.clock_counts h, toNat_sub_one_of_ne_zero h]
    omega

/-! ## The countdown over several clocks (R144) -/

/-- A countdown just reloaded with `P` stands at 0 after `n` further clocks exactly when `P + 1` divides `n + 1`, the
clock that reloaded counted with them. -/
theorem reloaded_fires_iff (P n : Nat) : (P ≤ n ∧ (n - P) % (P + 1) = 0) ↔ (n + 1) % (P + 1) = 0 := by
  by_cases h : P ≤ n
  · obtain ⟨k, rfl⟩ := Nat.exists_eq_add_of_le' h
    simp [Nat.add_assoc]
  · have hlt : (n + 1) % (P + 1) = n + 1 := Nat.mod_eq_of_lt (by omega)
    simp [h, hlt]

theorem Divider.iterate_clock_period {w : Nat} (d : Divider w) (n : Nat) :
    ((fun x => x.clock.1)^[n] d).period = d.period := by
  induction n generalizing d with
  | zero => rfl
  | succ n ih => rw [Function.iterate_succ_apply, ih, Divider.clock_period]

theorem Divider.iterate_clock_counter_le {w : Nat} (d : Divider w) (n : Nat) :
    ((fun x => x.clock.1)^[n] d).counter.toNat ≤ max d.period.toNat d.counter.toNat := by
  induction n generalizing d with
  | zero => exact Nat.le_max_right _ _
  | succ n ih =>
    have hrest := ih d.clock.1
    have hclock := d.clock_counter_le
    rw [Divider.clock_period] at hrest
    rw [Function.iterate_succ_apply]
    omega

/-- The counter reads 0 after `counter` clocks and then after every further `P + 1`: a clock at 0 begins a countdown
from `P`, any other clock makes the countdown one shorter. -/
theorem Divider.iterate_clock_counter_eq_zero_iff {w : Nat} (d : Divider w) (n : Nat) :
    ((fun x => x.clock.1)^[n] d).counter = 0 ↔
      d.counter.toNat ≤ n ∧ (n - d.counter.toNat) % (d.period.toNat + 1) = 0 := by
  induction n generalizing d with
  | zero => simp [← BitVec.toNat_inj]
  | succ n ih =>
    rw [Function.iterate_succ_apply, ih]
    by_cases h : d.counter = 0
    · simp [Divider.clock_fires h, h, reloaded_fires_iff]
    · have hpos : d.counter.toNat ≠ 0 := BitVec.toNat_ne_iff_ne.mpr h
      have hsub : n - (d.counter.toNat - 1) = n + 1 - d.counter.toNat := by omega
      simp only [Divider.clock_counts h, toNat_sub_one_of_ne_zero h, hsub, Nat.sub_le_iff_le_add]

/-- Settles O27: the firing times from those at which the counter reads 0, by induction on the clocks. -/
theorem dividerFiresEveryPeriodPlusOne : Obligations.DividerFiresEveryPeriodPlusOne :=
  fun _ d n => ⟨(Divider.clock_fired_iff _).trans (d.iterate_clock_counter_eq_zero_iff n),
    d.iterate_clock_period n, d.iterate_clock_counter_le n⟩

/-! ## The operations on the machine's Dividers (R141 to R143) -/

theorem exec_dividerClock (d : DividerId) (s : State) : exec (.dividerClock d) s =
    .next ((s.setDivider d (s.divider d).clock.1).returning (.flag (s.divider d).clock.2)) := rfl

theorem exec_dividerClock_fires {d : DividerId} {s : State} (h : (s.divider d).counter = 0) :
    exec (.dividerClock d) s =
      .next ((s.setDivider d ⟨(s.divider d).period, (s.divider d).period⟩).returning (.flag true)) := by
  rw [exec_dividerClock, Divider.clock_fires h]

theorem exec_dividerClock_counts {d : DividerId} {s : State} (h : (s.divider d).counter ≠ 0) :
    exec (.dividerClock d) s =
      .next ((s.setDivider d ⟨(s.divider d).period, (s.divider d).counter - 1⟩).returning (.flag false)) := by
  rw [exec_dividerClock, Divider.clock_counts h]

/-- Settles O24: the two writes are their definitions, and the clock has the Divider's two cases. -/
theorem dividerOperations : Obligations.DividerOperations :=
  fun _ _ _ => ⟨rfl, rfl, exec_dividerClock_fires, exec_dividerClock_counts⟩

/-! ## The operations on the timers (R146 to R150) -/

/-- `min_period` by its one exception, the triangle (R26). -/
theorem minPeriod_eq (u : TimerId) : minPeriod u = if u = .tri then 2 else 0 := by
  cases u <;> rfl

theorem exec_timerSetPeriodLow8 (t : SplitTimerId) (v : BitVec 8) (s : State) :
    exec (.timerSetPeriodLow8 t v) s = .next (s.setSplitTimer t ((s.splitTimer t).setPeriodLow8 v)) := rfl

theorem exec_timerSetPeriodHigh3 (t : SplitTimerId) (v : BitVec 3) (s : State) :
    exec (.timerSetPeriodHigh3 t v) s = .next (s.setSplitTimer t ((s.splitTimer t).setPeriodHigh3 v)) := rfl

theorem exec_timerClock (u : TimerId) (s : State) : exec (.timerClock u) s =
    .next ((s.setTimer u ((s.timer u).clock (minPeriod u)).1).returning
      (.flag ((s.timer u).clock (minPeriod u)).2)) := rfl

/-- Below its minimum period a timer is not clocked: only the answer is new (R150). -/
theorem exec_timerClock_gated {u : TimerId} {s : State} (h : (s.timer u).div.period.toNat < minPeriod u) :
    exec (.timerClock u) s = .next (s.returning (.flag false)) := by
  rw [exec_timerClock, Timer.clock_gated h, State.setTimer_timer]

/-- From its minimum period on, the clock of a timer is the clock of its Divider (R150). -/
theorem exec_timerClock_open {u : TimerId} {s : State} (h : minPeriod u ≤ (s.timer u).div.period.toNat) :
    exec (.timerClock u) s = exec (.dividerClock (.timer u)) s := by
  rw [exec_timerClock, Timer.clock_open h, exec_dividerClock]
  rfl

/-- Settles O26: the split writes on the assembled period, and the clock on the two sides of the gate. -/
theorem timerOperations : Obligations.TimerOperations := by
  intro t u v8 v3 p s
  rw [← minPeriod_eq]
  refine ⟨?_, ?_, rfl, rfl, exec_timerClock_gated, fun hopen => ⟨_, exec_dividerClock _ s,
    (exec_timerClock_open hopen).trans (exec_dividerClock _ s)⟩⟩
  · rw [exec_timerSetPeriodLow8, Timer.setPeriodLow8_eq]
  · rw [exec_timerSetPeriodHigh3, Timer.setPeriodHigh3_eq]

end Sys2Proof.Machine

/-! # The length-counter family (R160 to R166) -/

namespace Sys2Proof.Machine

/-! ## One clock (R164) -/

/-- The two cases of a clock as one update: only the counter can move. -/
theorem LengthCounter.clock_eq (l : LengthCounter) : l.clock =
    { l with counter := if l.halt = false ∧ l.counter ≠ 0 then l.counter - 1 else l.counter } := by
  by_cases hmoves : l.halt = false ∧ l.counter ≠ 0
  · rw [LengthCounter.clock_counts hmoves.1 hmoves.2, if_pos hmoves]
  · rw [LengthCounter.clock, if_neg hmoves, if_neg hmoves]

/-- A counter that is not halted counts down to 0 and stays there: on integers, one less with truncation. -/
theorem LengthCounter.clock_counter_toNat {l : LengthCounter} (hrun : l.halt = false) :
    l.clock.counter.toNat = l.counter.toNat - 1 := by
  by_cases hzero : l.counter = 0
  · simp [LengthCounter.clock_stands (.inr hzero), hzero]
  · rw [LengthCounter.clock_counts hrun hzero, toNat_sub_one_of_ne_zero hzero]

/-! ## Several clocks (R164, R166) -/

theorem LengthCounter.iterate_clock_halt (l : LengthCounter) (k : Nat) :
    (LengthCounter.clock^[k] l).halt = l.halt := by
  induction k generalizing l with
  | zero => rfl
  | succ k ih => rw [Function.iterate_succ_apply, ih, LengthCounter.clock_halt]

theorem LengthCounter.iterate_clock_enabled (l : LengthCounter) (k : Nat) :
    (LengthCounter.clock^[k] l).enabled = l.enabled := by
  induction k generalizing l with
  | zero => rfl
  | succ k ih => rw [Function.iterate_succ_apply, ih, LengthCounter.clock_enabled]

theorem LengthCounter.iterate_clock_of_halted {l : LengthCounter} (hhalt : l.halt = true) (k : Nat) :
    LengthCounter.clock^[k] l = l :=
  Function.iterate_fixed (LengthCounter.clock_stands (.inl hhalt)) k

theorem LengthCounter.iterate_clock_counter_toNat {l : LengthCounter} (hrun : l.halt = false) (k : Nat) :
    (LengthCounter.clock^[k] l).counter.toNat = l.counter.toNat - k := by
  induction k generalizing l with
  | zero => rfl
  | succ k ih =>
    have hrun' : l.clock.halt = false := (LengthCounter.clock_halt l).trans hrun
    rw [Function.iterate_succ_apply, ih hrun', LengthCounter.clock_counter_toNat hrun, Nat.sub_sub,
      Nat.add_comm]

/-- Settles O29: a halted counter is a fixed point of the clock, any other loses one a clock, by induction on the
clocks. -/
theorem lengthCounterDuration : Obligations.LengthCounterDuration := by
  intro l k
  refine ⟨?_, l.iterate_clock_enabled k, l.iterate_clock_halt k⟩
  cases hhalt : l.halt with
  | true => rw [LengthCounter.iterate_clock_of_halted hhalt, if_pos rfl]
  | false => rw [LengthCounter.iterate_clock_counter_toNat hhalt, if_neg Bool.false_ne_true]

/-! ## The operations on the machine's length counters (R161 to R165) -/

theorem exec_lengthSetEnabled (l : LengthId) (e : Bool) (s : State) :
    exec (.lengthSetEnabled l e) s = .next (s.setLen l ((s.len l).setEnabled e)) := rfl

theorem exec_lengthLoad (l : LengthId) (i : BitVec 5) (s : State) :
    exec (.lengthLoad l i) s = .next (s.setLen l ((s.len l).load i)) := rfl

theorem exec_lengthClock (l : LengthId) (s : State) :
    exec (.lengthClock l) s = .next (s.setLen l (s.len l).clock) := rfl

/-- Settles O28: each operation replaces the one counter by its update, and the two reads only answer. -/
theorem lengthCounterOperations : Obligations.LengthCounterOperations := by
  intro l e h i s
  refine ⟨?setEnabled, rfl, ?load, ?clock, rfl, rfl⟩
  case setEnabled => rw [exec_lengthSetEnabled, LengthCounter.setEnabled_eq]
  case load => rw [exec_lengthLoad, LengthCounter.load_eq]
  case clock => rw [exec_lengthClock, LengthCounter.clock_eq]

end Sys2Proof.Machine

/-! # The envelope family (R170 to R177) -/

namespace Sys2Proof.Machine

/-! ## The fields no clock writes (R173) -/

theorem Envelope.iterate_clock_loop (e : Envelope) (n : Nat) : (Envelope.clock^[n] e).loop = e.loop :=
  congrFun (Function.iterate_invariant (funext Envelope.clock_loop) n) e

theorem Envelope.iterate_clock_constantMode (e : Envelope) (n : Nat) :
    (Envelope.clock^[n] e).constantMode = e.constantMode :=
  congrFun (Function.iterate_invariant (funext Envelope.clock_constantMode) n) e

theorem Envelope.iterate_clock_period (e : Envelope) (n : Nat) :
    (Envelope.clock^[n] e).div.period = e.div.period :=
  congrFun (Function.iterate_invariant (g := Divider.period ∘ Envelope.div) (funext Envelope.clock_period) n) e

/-! ## The levels of a decay (R175) -/

/-- The level `k` firings of the divider after the restart: from 15 down to 0, where it is held, or from where it
starts again. -/
def decayLevel (loop : Bool) (k : Nat) : Nat := if loop then 15 - k % 16 else 15 - k

theorem decayLevel_succ (loop : Bool) (k : Nat) : decayLevel loop (k + 1) =
    if decayLevel loop k = 0 then (if loop then 15 else 0) else decayLevel loop k - 1 := by
  cases loop with
  | false =>
    simp only [decayLevel, Bool.false_eq_true, if_false]
    split <;> omega
  | true =>
    simp only [decayLevel, if_true]
    split <;> omega

/-- The counter a firing leaves (R173) is the next level. -/
theorem decayed_toNat {c : BitVec 4} {loop : Bool} {k : Nat} (h : c.toNat = decayLevel loop k) :
    (if c ≠ 0 then c - 1 else if loop then 15 else 0 : BitVec 4).toNat = decayLevel loop (k + 1) := by
  rw [decayLevel_succ, ← h]
  by_cases hzero : c = 0
  · subst hzero
    cases loop <;> rfl
  · have hpos : c.toNat ≠ 0 := BitVec.toNat_ne_iff_ne.mpr hzero
    rw [if_pos hzero, if_neg hpos, toNat_sub_one_of_ne_zero hzero]

/-- `e` has been `r` clocks in the level that `k` firings of its divider since the restart have led to. -/
structure Envelope.InLevel (e : Envelope) (k r : Nat) : Prop where
  decaying : e.restart = false
  countdown : e.div.counter.toNat + r = e.div.period.toNat
  level : e.counter.toNat = decayLevel e.loop k

theorem Envelope.inLevel_of_restart {e : Envelope} (h : e.restart = true) : e.clock.InLevel 0 0 := by
  rw [Envelope.clock_restarts h]
  exact ⟨rfl, rfl, by cases e.loop <;> rfl⟩

/-- While the divider has not run out, a clock stays in the level. -/
theorem Envelope.InLevel.clock_stays {e : Envelope} {k r : Nat} (h : e.InLevel k r) (hr : r < e.div.period.toNat) :
    e.clock.InLevel k (r + 1) := by
  obtain ⟨hdecaying, hcountdown, hlevel⟩ := h
  have hpos : e.div.counter.toNat ≠ 0 := by omega
  have hcounter : e.div.counter ≠ 0 := BitVec.toNat_ne_iff_ne.mp hpos
  have hcountdown' : (e.div.counter - 1).toNat + (r + 1) = e.div.period.toNat := by
    rw [toNat_sub_one_of_ne_zero hcounter]
    omega
  rw [Envelope.clock_waits hdecaying hcounter]
  exact ⟨hdecaying, hcountdown', hlevel⟩

/-- When the divider has run out, a clock enters the next level. -/
theorem Envelope.InLevel.clock_leaves {e : Envelope} {k r : Nat} (h : e.InLevel k r) (hr : r = e.div.period.toNat) :
    e.clock.InLevel (k + 1) 0 := by
  obtain ⟨hdecaying, hcountdown, hlevel⟩ := h
  have hcounter : e.div.counter = 0 := BitVec.eq_of_toNat_eq (Nat.add_eq_right.mp (hr ▸ hcountdown))
  rw [Envelope.clock_decays hdecaying hcounter]
  exact ⟨hdecaying, rfl, decayed_toNat hlevel⟩

/-- From the restart clock on, which counts as the first of its level, each level lasts `P + 1` clocks. -/
theorem Envelope.inLevel_iterate_clock {e : Envelope} (h : e.restart = true) (n : Nat) :
    (Envelope.clock^[n + 1] e).InLevel (n / (e.div.period.toNat + 1)) (n % (e.div.period.toNat + 1)) := by
  induction n with
  | zero => simpa using Envelope.inLevel_of_restart h
  | succ n ih =>
    have hperiod := congrArg BitVec.toNat (e.iterate_clock_period (n + 1))
    generalize e.div.period.toNat = P at ih hperiod ⊢
    rw [Function.iterate_succ_apply']
    by_cases hlast : n % (P + 1) = P
    · have hmod : (n + 1) % (P + 1) = 0 := Nat.succ_mod_succ_eq_zero_iff.mpr hlast
      rw [Nat.succ_div_of_mod_eq_zero hmod, hmod]
      exact ih.clock_leaves (hlast.trans hperiod.symm)
    · have hlt : n % (P + 1) < P := Nat.lt_of_le_of_ne (Nat.lt_succ_iff.mp (n.mod_lt P.succ_pos)) hlast
      have hmod : (n + 1) % (P + 1) = n % (P + 1) + 1 := by
        rw [← Nat.mod_add_mod, Nat.mod_eq_of_lt (Nat.succ_lt_succ hlt)]
      rw [Nat.succ_div_of_mod_ne_zero (hmod ▸ Nat.succ_ne_zero _), hmod]
      exact ih.clock_stays (hperiod ▸ hlt)

theorem Envelope.getVolume_of_envelopeMode {e : Envelope} (h : e.constantMode = false) : e.getVolume = e.counter := by
  rw [Envelope.getVolume, h, if_neg Bool.false_ne_true]

/-- Settles O31: the level after `n / (P + 1)` firings, and the mode that no clock writes. -/
theorem envelopeDecay : Obligations.EnvelopeDecay := by
  intro e n hrestart
  refine ⟨?level, fun hmode => ?volume⟩
  case level =>
    rw [(Envelope.inLevel_iterate_clock hrestart n).level, Envelope.iterate_clock_loop, decayLevel]
  case volume =>
    exact Envelope.getVolume_of_envelopeMode ((e.iterate_clock_constantMode (n + 1)).trans hmode)

/-! ## The operations on the machine's envelopes (R171 to R174, R176, R177) -/

theorem exec_envelopeGetVolume (e : EnvelopeId) (s : State) :
    exec (.envelopeGetVolume e) s = .next (s.returning (.num (s.env e).getVolume.toNat)) := rfl

theorem exec_envelopeClock (e : EnvelopeId) (s : State) :
    exec (.envelopeClock e) s = .next (s.setEnv e (s.env e).clock) := rfl

/-- Settles O30: the setters are their definitions, the volume is read in the two modes, and the clock has its three
cases. -/
theorem envelopeOperations : Obligations.EnvelopeOperations := by
  intro e v b s
  refine ⟨rfl, rfl, rfl, rfl, ?volume, fun hrestart => ?restarts, fun hdecaying hcounter => ?waits,
    fun hdecaying hcounter => ?decays⟩
  case volume => rw [exec_envelopeGetVolume, Envelope.getVolume, apply_ite BitVec.toNat]
  case restarts => rw [exec_envelopeClock, Envelope.clock_restarts hrestart]
  case waits => rw [exec_envelopeClock, Envelope.clock_waits hdecaying hcounter]
  case decays => rw [exec_envelopeClock, Envelope.clock_decays hdecaying hcounter]

end Sys2Proof.Machine

/-! # The sweep family (R180 to R190) -/

namespace Sys2Proof.Machine

/-! ## The derived signals on integers (R181, R183) -/

/-- R181: the clamped natural-number subtraction of the model is the integer subtraction clamped at 0. -/
theorem Pulse.sweepTarget_eq_targetOf (x : PulseId) (p : Pulse) : (p.sweepTarget x : Int) = targetOf x p := by
  simp only [Pulse.sweepTarget, SweepUnit.target, targetOf, Timer.getPeriod, Nat.shiftRight_eq_div_pow]
  generalize p.timer.div.period.toNat = c
  have hd : ((c / 2 ^ p.sweep.shift.toNat : Nat) : Int) = c / 2 ^ p.sweep.shift.toNat := by simp
  rw [← hd]
  generalize c / 2 ^ p.sweep.shift.toNat = d
  cases p.sweep.negate with
  | true => cases x <;> simp only [subtractExtra, if_true] <;> omega
  | false => simp

/-- R181: the largest target is twice the largest 11-bit period. -/
theorem Pulse.sweepTarget_le (x : PulseId) (p : Pulse) : p.sweepTarget x ≤ 0xFFE := by
  have hperiod : p.timer.div.period.toNat < 2 ^ 11 := p.timer.div.period.isLt
  have hshifted : p.timer.div.period.toNat >>> p.sweep.shift.toNat ≤ p.timer.div.period.toNat := Nat.shiftRight_le _ _
  rw [Pulse.sweepTarget, SweepUnit.target, Timer.getPeriod]
  generalize p.timer.div.period.toNat >>> p.sweep.shift.toNat = d at hshifted ⊢
  split <;> omega

theorem Pulse.sweepSilence_eq_decide (x : PulseId) (p : Pulse) :
    p.sweepSilence x = decide (p.timer.div.period.toNat < 8 ∨ 0x7FF < targetOf x p) := by
  have htarget : 0x7FF < targetOf x p ↔ p.sweepTarget x > 0x7FF := by
    rw [← Pulse.sweepTarget_eq_targetOf]
    omega
  rw [Bool.decide_or, decide_eq_decide.mpr htarget]
  rfl

/-! ## The retune (R182) -/

/-- R182: the condition on integers is "enabled and not silenced"; no shift count is excluded. -/
theorem retunes_iff (x : PulseId) (p : Pulse) :
    Retunes x p ↔ p.sweep.enabled = true ∧ p.sweepSilence x = false := by
  simp only [Retunes, Pulse.sweepSilence_eq_decide, decide_eq_false_iff_not, not_or, not_lt]

theorem Pulse.retune_of_not_retunes {x : PulseId} {p : Pulse} (h : ¬ Retunes x p) : p.retune x = p := by
  obtain ⟨henabled, hsilence, -⟩ | ⟨-, hsame⟩ := p.retune_cases x
  · exact absurd ((retunes_iff x p).mpr ⟨henabled, hsilence⟩) h
  · exact hsame

theorem Pulse.retune_of_retunes {x : PulseId} {p : Pulse} (h : Retunes x p) :
    p.retune x = { p with timer.div.period := BitVec.ofNat 11 (p.sweepTarget x) } := by
  obtain ⟨henabled, hsilence⟩ := (retunes_iff x p).mp h
  obtain ⟨-, -, hwritten⟩ | ⟨hdisabled | hsilenced, -⟩ := p.retune_cases x
  · exact hwritten
  · exact absurd (henabled.symm.trans hdisabled) Bool.true_eq_false_eq_False
  · exact absurd (hsilence.symm.trans hsilenced) Bool.false_ne_true

/-- A retune loses no bit of the target: one that is not silenced fits the 11-bit period (R182, R183). -/
theorem writtenPeriod_eq_targetOf {x : PulseId} {p : Pulse} (h : Retunes x p) :
    ((BitVec.ofNat 11 (p.sweepTarget x)).toNat : Int) = targetOf x p := by
  obtain ⟨-, -, htarget⟩ := h
  rw [← Pulse.sweepTarget_eq_targetOf] at htarget ⊢
  have hfits : p.sweepTarget x < 2 ^ 11 := by omega
  rw [BitVec.toNat_ofNat, Nat.mod_eq_of_lt hfits]

/-! ## The sweep clock (R184) -/

theorem Pulse.sweepAdvance_fires {x : PulseId} {p : Pulse} (h : p.sweep.div.counter = 0) :
    p.sweepAdvance x = ({ p with sweep.div := p.sweep.div.clock.1 } : Pulse).retune x :=
  if_pos (p.sweep.div.clock_fired_iff.mpr h)

theorem Pulse.sweepAdvance_counts {x : PulseId} {p : Pulse} (h : p.sweep.div.counter ≠ 0) :
    p.sweepAdvance x = { p with sweep.div := p.sweep.div.clock.1 } :=
  if_neg (mt p.sweep.div.clock_fired_iff.mp h)

theorem Pulse.sweepAdvance_sweep (x : PulseId) (p : Pulse) :
    (p.sweepAdvance x).sweep = { p.sweep with div := p.sweep.div.clock.1 } := by
  by_cases h : p.sweep.div.counter = 0
  · rw [Pulse.sweepAdvance_fires h, Pulse.retune_sweep]
  · rw [Pulse.sweepAdvance_counts h]

/-- Neither the clock nor the retune writes the divider's period, so the reload path resets the counter to the period
on entry. -/
theorem Pulse.sweepClock_eq (x : PulseId) (p : Pulse) : p.sweepClock x =
    if p.sweep.reload then
      { p.sweepAdvance x with sweep.div.counter := p.sweep.div.period, sweep.reload := false }
    else p.sweepAdvance x := by
  have hperiod : (p.sweepAdvance x).sweep.div.period = p.sweep.div.period := by
    rw [Pulse.sweepAdvance_sweep, Divider.clock_period]
  rw [← hperiod]
  rfl

/-! ## The operations on the machine's sweep units (R181 to R189) -/

@[simp] theorem State.setPulse_setPulse (s : State) (x : PulseId) (p q : Pulse) :
    (s.setPulse x p).setPulse x q = s.setPulse x q := by cases x <;> rfl

@[simp] theorem State.pulse_returning (s : State) (r : Result) (x : PulseId) :
    (s.returning r).pulse x = s.pulse x := by cases x <;> rfl

@[simp] theorem State.setPulse_returning (s : State) (r : Result) (x : PulseId) (p : Pulse) :
    (s.returning r).setPulse x p = (s.setPulse x p).returning r := by cases x <;> rfl

@[simp] theorem State.returning_returning (s : State) (r r' : Result) :
    (s.returning r).returning r' = s.returning r' := rfl

/-- Answering what already stands as the answer changes nothing. -/
theorem State.returning_of_result_eq {s : State} {r : Result} (h : s.obs.result = r) : s.returning r = s := by
  subst h
  rfl

theorem exec_sweepTarget (x : PulseId) (s : State) :
    exec (.sweepTarget x) s = .next (s.returning (.num ((s.pulse x).sweepTarget x))) := rfl

theorem exec_sweepSilence (x : PulseId) (s : State) :
    exec (.sweepSilence x) s = .next (s.returning (.flag ((s.pulse x).sweepSilence x))) := rfl

theorem exec_sweepRetune (x : PulseId) (s : State) :
    exec (.sweepRetune x) s = .next (s.setPulse x ((s.pulse x).retune x)) := rfl

theorem exec_sweepClock (x : PulseId) (s : State) :
    exec (.sweepClock x) s = .next (s.setPulse x ((s.pulse x).sweepClock x)) := rfl

/-- Settles O32: the two signals by their integer forms, and the setters are their definitions. -/
theorem sweepSignalsAndSetters : Obligations.SweepSignalsAndSetters := by
  intro x b v s
  refine ⟨⟨(s.pulse x).sweepTarget x, Pulse.sweepTarget_eq_targetOf x _, Pulse.sweepTarget_le x _,
    exec_sweepTarget x s⟩, ?silence, rfl, rfl, rfl, rfl, rfl⟩
  case silence => rw [exec_sweepSilence, Pulse.sweepSilence_eq_decide]

/-- Settles O33: a retune that is not due writes back the same pulse, and one that is due writes a target that fits. -/
theorem sweepRetune : Obligations.SweepRetune := by
  intro x s
  refine ⟨fun hidle => ?idle, fun hdue => ⟨_, writtenPeriod_eq_targetOf hdue, ?due⟩⟩
  case idle => rw [exec_sweepRetune, Pulse.retune_of_not_retunes hidle, State.setPulse_pulse]
  case due => rw [exec_sweepRetune, Pulse.retune_of_retunes hdue]

/-- The state after the divider's clock and its retune, with the answer of the divider's clock still standing. -/
def State.sweepAdvanced (s : State) (x : PulseId) : State :=
  (s.setPulse x ((s.pulse x).sweepAdvance x)).returning (.flag (s.pulse x).sweep.div.clock.2)

/-- It is reached by the operations themselves: the divider's clock and, when that fires, a retune. -/
theorem State.sweepAdvanced_after_dividerClock (x : PulseId) (s : State) : ∃ u : State,
    exec (.dividerClock (.sweep x)) s = .next u ∧
    if (s.pulse x).sweep.div.counter = 0 then exec (.sweepRetune x) u = .next (s.sweepAdvanced x)
    else s.sweepAdvanced x = u := by
  refine ⟨_, exec_dividerClock (.sweep x) s, ?_⟩
  simp only [State.setDivider, State.divider]
  split
  next hfires => simp [exec_sweepRetune, State.sweepAdvanced, Pulse.sweepAdvance_fires hfires]
  next hcounts => rw [State.sweepAdvanced, Pulse.sweepAdvance_counts hcounts]

/-- Settles O34: the two states are those after the divider's clock and after its retune; the whole clock is the second
of them, on the reload path with divider and flag reset. -/
theorem sweepClock : Obligations.SweepClock := by
  intro x s
  obtain ⟨u, hclock, hretune⟩ := State.sweepAdvanced_after_dividerClock x s
  refine ⟨u, s.sweepAdvanced x, hclock, hretune, ?_⟩
  rw [exec_sweepClock, Pulse.sweepClock_eq]
  split <;> simp [State.sweepAdvanced, State.returning_of_result_eq]

end Sys2Proof.Machine

/-! # The waveform family: the generators (R195 to R223), the sample-playback interrupt, and the machine's invariant -/

namespace Sys2Proof.Machine

/-! ## The phase sequencers and the linear counter (R197 to R207) -/

/-- Counting modulo the number of phases is the sum at the phase's own width. -/
theorem ofNat_toNat_succ_mod {w : Nat} (phase : BitVec w) :
    BitVec.ofNat w ((phase.toNat + 1) % 2 ^ w) = phase + 1 := by
  apply BitVec.eq_of_toNat_eq
  simp

theorem exec_pulseWaveAdvance (x : PulseId) (s : State) :
    exec (.pulseWaveAdvance x) s = .next (s.setPulse x { s.pulse x with phase := (s.pulse x).phase + 1 }) := rfl

theorem exec_triWaveAdvance (s : State) :
    exec .triWaveAdvance s = .next { s with tri.phase := s.tri.phase + 1 } := rfl

theorem exec_linearCounterClock (s : State) :
    exec .linearCounterClock s = .next { s with tri := s.tri.linearClock } := rfl

/-- Settles O35: the two phases are counted at their own width, and the linear counter has its one equation. -/
theorem phasesAndLinearCounter : Obligations.PhasesAndLinearCounter := by
  intro x s
  refine ⟨?pulse, rfl, rfl, ?triangle, rfl, ?linear, rfl⟩
  case pulse =>
    rw [exec_pulseWaveAdvance, ← ofNat_toNat_succ_mod]
    rfl
  case triangle =>
    rw [exec_triWaveAdvance, ← ofNat_toNat_succ_mod]
    rfl
  case linear => rw [exec_linearCounterClock, Triangle.linearClock_eq]

/-! ## The noise shift register (R212, R213) -/

theorem Noise.feedback_eq (n : Noise) :
    n.feedback = (n.lfsr.getLsbD 0 ^^ n.lfsr.getLsbD (if n.mode then 6 else 1)) := by
  rw [Noise.feedback, apply_ite n.lfsr.getLsbD]

/-- The shift leaves bit 14 clear, so putting the feedback there is an addition. -/
theorem Noise.advance_lfsr_toNat (n : Noise) :
    n.advance.lfsr.toNat = n.lfsr.toNat / 2 + 16384 * n.feedback.toNat := by
  have hfits : n.lfsr.toNat / 2 < 2 ^ 14 := by omega
  have hdisjoint := Nat.two_pow_add_eq_or_of_lt hfits n.feedback.toNat
  rw [Nat.add_comm, hdisjoint, Nat.or_comm]
  simp only [Noise.advance, BitVec.toNat_or, BitVec.toNat_ushiftRight, Nat.shiftRight_one]
  cases n.feedback <;> rfl

theorem exec_noiseWaveAdvance (s : State) :
    exec .noiseWaveAdvance s = .next { s with noi.lfsr := s.noi.advance.lfsr } := rfl

/-- Settles O36: the register's value as a sum, with the feedback's tap chosen by the mode. -/
theorem noiseShiftRegister : Obligations.NoiseShiftRegister := by
  intro s
  refine ⟨⟨s.noi.advance.lfsr, ?_, exec_noiseWaveAdvance s⟩, rfl⟩
  rw [Noise.advance_lfsr_toNat, Noise.feedback_eq]

/-! ## The memory reader (R218, R219) -/

theorem State.onDmc_of_eq {s : State} {f : Latches → List Host.Cell → Dmc → Dmc × Option Addr} {d : Dmc}
    {a : Option Addr} (h : f s.reg.dmc s.mem s.dmc = (d, a)) :
    s.onDmc f = { s with dmc := d, obs.reads := s.obs.reads ++ a.toList } := by
  rw [State.onDmc, h]

/-- An operation that presents no address leaves the record of addresses. -/
theorem State.onDmc_of_eq_none {s : State} {f : Latches → List Host.Cell → Dmc → Dmc × Option Addr} {d : Dmc}
    (h : f s.reg.dmc s.mem s.dmc = (d, none)) : s.onDmc f = { s with dmc := d } := by
  rw [State.onDmc_of_eq h, Option.toList_none, List.append_nil]

/-- Before the last byte a fetch is all the memory reader does. -/
theorem Dmc.fill_continues {r : Latches} {m : List Host.Cell} {d : Dmc} (hbuf : d.bufFull = false)
    (hleft : d.remaining ≠ 0) (hmore : d.remaining ≠ 1) : d.fill r m = (d.fetchByte m, some d.curAddr) := by
  rw [Dmc.fill_fetches hbuf hleft, if_neg hmore]

/-- The fetch of the last byte is followed by the end of the sample. -/
theorem Dmc.fill_ends {r : Latches} {m : List Host.Cell} {d : Dmc} (hbuf : d.bufFull = false)
    (hlast : d.remaining = 1) : d.fill r m = ((d.fetchByte m).endSample r, some d.curAddr) := by
  have hleft : d.remaining ≠ 0 := by simp [hlast]
  rw [Dmc.fill_fetches hbuf hleft, if_pos hlast]

theorem Dmc.endSample_of_loop {r : Latches} {d : Dmc} (h : d.loop = true) : d.endSample r = d.restartSample r :=
  if_pos h

theorem Dmc.endSample_of_not_loop {r : Latches} {d : Dmc} (h : d.loop = false) :
    d.endSample r = { d with irqFlag := d.irqFlag || d.irqEnable } := by
  have hraised (hen : d.irqEnable = true) : (d.irqFlag || d.irqEnable) = true := by simp [hen]
  have hkept (hen : ¬ d.irqEnable = true) : (d.irqFlag || d.irqEnable) = d.irqFlag := by simp [hen]
  rw [Dmc.endSample, if_neg (Bool.eq_false_iff.mp h)]
  split
  next hen => rw [hraised hen, Dmc.raiseIrq]
  next hen => rw [hkept hen]

theorem exec_dmcFill (s : State) : exec .dmcFill s = .next (s.onDmc Dmc.fill) := rfl

/-- Settles O37: the memory reader stands still, fetches, or fetches and ends the sample, which loops or not. -/
theorem dmcMemoryReader : Obligations.DmcMemoryReader := by
  intro s
  simp only [exec_dmcFill]
  refine ⟨rfl, fun hidle => ?idle, fun hbuf hleft hmore => ?continues, fun hbuf hlast hloop => ?restarts,
    fun hbuf hlast hloop => ?ends⟩
  case idle => rw [State.onDmc_of_eq_none (Dmc.fill_idle hidle)]
  case continues =>
    rw [State.onDmc_of_eq (Dmc.fill_continues hbuf hleft hmore)]
    rfl
  case restarts =>
    rw [State.onDmc_of_eq (Dmc.fill_ends hbuf hlast), Dmc.endSample_of_loop (d := s.dmc.fetchByte s.mem) hloop]
    rfl
  case ends =>
    rw [State.onDmc_of_eq (Dmc.fill_ends hbuf hlast), Dmc.endSample_of_not_loop (d := s.dmc.fetchByte s.mem) hloop]
    rfl

/-! ## The output unit (R220 to R223) -/

theorem Dmc.stepLevel_true (d : Dmc) :
    d.stepLevel true = { d with level := if d.level.toNat ≤ 125 then d.level + 2 else d.level } := by
  by_cases h : d.level.toNat ≤ 125
  · rw [if_pos h]
    exact if_pos h
  · rw [if_neg h]
    exact if_neg h

theorem Dmc.stepLevel_false (d : Dmc) :
    d.stepLevel false = { d with level := if 2 ≤ d.level.toNat then d.level - 2 else d.level } := by
  by_cases h : 2 ≤ d.level.toNat
  · rw [if_pos h]
    exact if_pos h
  · rw [if_neg h]
    exact if_neg h

/-- A level step moves the level and nothing else. -/
theorem Dmc.stepLevel_eq (b : Bool) (d : Dmc) : d.stepLevel b = { d with level := (d.stepLevel b).level } := by
  obtain ⟨-, -, h⟩ | ⟨-, -, h⟩ | h := d.stepLevel_cases b <;> rw [h]

/-- The level step moves neither the shift register nor the bit count, so both are shifted and counted from their
values on entry. -/
theorem Dmc.shiftOut_eq (d : Dmc) : d.shiftOut =
    { (if d.silence then d else d.stepLevel (d.shift.getLsbD 0)) with
      shift := d.shift >>> 1, bits := d.bits - 1 } := by
  cases h : d.silence with
  | true => simp [Dmc.shiftOut, h]
  | false =>
    simp only [Dmc.shiftOut, h, Bool.false_eq_true, if_false]
    rw [Dmc.stepLevel_eq]

/-- Shifting a bit out touches the level, the shift register and the bit count alone. -/
theorem Dmc.shiftOut_frame (d : Dmc) : d.shiftOut =
    { d with level := d.shiftOut.level, shift := d.shiftOut.shift, bits := d.shiftOut.bits } := by
  rw [Dmc.shiftOut_eq]
  split
  · rfl
  · rw [Dmc.stepLevel_eq]

theorem Dmc.outputClock_last {r : Latches} {m : List Host.Cell} {d : Dmc} (h : d.bits = 1) :
    d.outputClock r m = Dmc.startOutputCycle r m d.shiftOut := if_pos (by simp [Dmc.shiftOut_eq, h])

theorem Dmc.outputClock_continues {r : Latches} {m : List Host.Cell} {d : Dmc} (h : d.bits ≠ 1) :
    d.outputClock r m = (d.shiftOut, none) := if_neg (by simp only [Dmc.shiftOut_eq]; bv_omega)

theorem exec_dmcStepLevel (b : Bool) (s : State) :
    exec (.dmcStepLevel b) s = .next { s with dmc := s.dmc.stepLevel b } := rfl

theorem exec_dmcStartOutputCycle (s : State) :
    exec .dmcStartOutputCycle s = .next (s.onDmc Dmc.startOutputCycle) := rfl

theorem exec_dmcOutputClock (s : State) : exec .dmcOutputClock s = .next (s.onDmc Dmc.outputClock) := rfl

/-- `s` after the first statement of the output clock, the level step unless silenced (R220). -/
def State.levelStepped (s : State) : State :=
  { s with dmc := if s.dmc.silence then s.dmc else s.dmc.stepLevel (s.dmc.shift.getLsbD 0) }

theorem State.levelStepped_of_exec (s : State) :
    if s.dmc.silence then s.levelStepped = s
    else exec (.dmcStepLevel (s.dmc.shift.getLsbD 0)) s = .next s.levelStepped := by
  unfold State.levelStepped
  split <;> rfl

/-- The shift and the count complete what `Dmc.shiftOut` does. -/
theorem State.levelStepped_shifted (s : State) :
    { s.levelStepped with dmc.shift := s.dmc.shift >>> 1, dmc.bits := s.dmc.bits - 1 } =
      { s with dmc := s.dmc.shiftOut } := by
  rw [Dmc.shiftOut_eq]
  rfl

/-- Settles O38: the level step in its two directions, the output cycle with and without a buffered byte, and the
clock before and at the last bit. -/
theorem dmcOutputUnit : Obligations.DmcOutputUnit := by
  refine ⟨fun s => ?up, fun s => ?down, fun _ => rfl, fun s hempty => ?silences,
    fun s hfull => ⟨_, exec_dmcFill _, ?plays⟩,
    fun s hbits => ⟨s.levelStepped, s.onDmc Dmc.outputClock, s.levelStepped_of_exec, ?clock, exec_dmcOutputClock s⟩⟩
  case up => rw [exec_dmcStepLevel, Dmc.stepLevel_true]
  case down => rw [exec_dmcStepLevel, Dmc.stepLevel_false]
  case silences => rw [exec_dmcStartOutputCycle, State.onDmc_of_eq_none (Dmc.startOutputCycle_empty hempty)]
  case plays =>
    rw [exec_dmcStartOutputCycle, State.onDmc_of_eq (Dmc.startOutputCycle_full hfull)]
    rfl
  case clock =>
    split
    next hlast =>
      have hzero : (0 : BitVec 4) = s.dmc.bits - 1 := by rw [hlast]; rfl
      rw [hzero, State.levelStepped_shifted, exec_dmcStartOutputCycle, State.onDmc, State.onDmc,
        Dmc.outputClock_last hlast]
    next hmore => rw [State.onDmc_of_eq_none (Dmc.outputClock_continues hmore), State.levelStepped_shifted]

/-! ## What an event can do to the sample-playback channel -/

theorem State.clockTimers_dmc (s : State) : s.clockTimers.dmc =
    if s.phase2 then s.dmc else (Dmc.clockTimer s.reg.dmc s.mem s.dmc).1 := by
  cases h : s.phase2 <;> simp [State.clockTimers, State.clockHalfRateTimers, h]

theorem State.clockTimers_reads (s : State) : s.clockTimers.obs.reads =
    if s.phase2 then s.obs.reads
    else s.obs.reads ++ (Dmc.clockTimer s.reg.dmc s.mem s.dmc).2.toList := by
  cases h : s.phase2 <;> simp [State.clockTimers, State.clockHalfRateTimers, h]

/-- The resampler touches the mixer, the FIFO and the record of samples alone (R330). -/
theorem State.resample_frame (s : State) : s.resample =
    { s with mix := s.resample.mix, fifo := s.resample.fifo, obs.emitted := s.resample.obs.emitted } := by
  rw [State.resample]
  split
  · rw [State.emit_eq]
  · rfl

/-- The channel of `t`, and the addresses presented, are those of `s` after the channel's operation `f`. -/
structure DmcAfter (f : Latches → List Host.Cell → Dmc → Dmc × Option Addr) (s t : State) : Prop where
  dmc : t.dmc = (f s.reg.dmc s.mem s.dmc).1
  reads : t.obs.reads = s.obs.reads ++ (f s.reg.dmc s.mem s.dmc).2.toList

/-- An update of the channel as an operation that presents no address. -/
def Dmc.quietly (g : Dmc → Dmc) : Latches → List Host.Cell → Dmc → Dmc × Option Addr := fun _ _ d => (g d, none)

theorem DmcAfter.quietly {g : Dmc → Dmc} {s t : State} (hdmc : t.dmc = g s.dmc) (hreads : t.obs.reads = s.obs.reads) :
    DmcAfter (Dmc.quietly g) s t := ⟨hdmc, hreads.trans (List.append_nil _).symm⟩

/-- What taking an event can do to the channel: only the channel's clock and an ENABLE write may fetch, and only
`RESET`, a DMC_R0 write and an ENABLE write touch the flag outside the memory reader. -/
inductive DmcEvent (s t : State) : Event → Prop
  | keeps (e : Event) (h : DmcAfter (Dmc.quietly id) s t) : DmcEvent s t e
  | clocks (h : DmcAfter Dmc.clockTimer s t) : DmcEvent s t .step
  | resets (h : DmcAfter (Dmc.quietly fun _ => Dmc.reset) s t) : DmcEvent s t .reset
  | writesR0 (w : WriteWord) (hid : wordId w = 0x10)
      (h : DmcAfter (Dmc.quietly fun d => d.writeR0 (wordByte w)) s t) : DmcEvent s t (.write w)
  | writesR1 (w : WriteWord)
      (h : DmcAfter (Dmc.quietly fun d => { d with level := Field.dmcLevel (wordByte w) }) s t) :
      DmcEvent s t (.write w)
  | enables (w : WriteWord) (hid : wordId w = 0x15)
      (h : DmcAfter (Dmc.writeEnable (Field.enableDmc (wordByte w))) s t) : DmcEvent s t (.write w)

/-- The alternatives of `decodeWord` are in the order of the ids, from `h_1` for id 0x00. -/
theorem exec_write_dmcEvent {w : WriteWord} {s t : State} (h : exec (decodeWord w) s = .next t) :
    DmcEvent s t (.write w) := by
  unfold decodeWord at h
  split at h <;> cases h
  case h_17 hid => exact .writesR0 w (BitVec.eq_of_toNat_eq hid) (.quietly rfl rfl)
  case h_18 => exact .writesR1 w (.quietly rfl rfl)
  case h_22 hid => exact .enables w (BitVec.eq_of_toNat_eq hid) ⟨rfl, rfl⟩
  case h_24 => exact .keeps _ (.quietly (by simp) (by simp))
  all_goals exact .keeps _ (.quietly rfl rfl)

/-- A `STEP` clocks the channel's timer every other cycle (R323) and does nothing else to the channel. -/
theorem State.cycle_resample_dmcEvent (s : State) : DmcEvent s s.cycle.resample .step := by
  have hdmc := State.clockTimers_dmc s.fsClock
  have hreads := State.clockTimers_reads s.fsClock
  simp only [State.fsClock_phase2, State.fsClock_dmc, State.fsClock_reg, State.fsClock_mem, State.fsClock_obs]
    at hdmc hreads
  rw [State.resample_frame]
  cases hphase : s.phase2 with
  | true =>
    rw [hphase, if_pos rfl] at hdmc hreads
    exact .keeps _ (.quietly hdmc hreads)
  | false =>
    rw [hphase, if_neg Bool.false_ne_true] at hdmc hreads
    exact .clocks ⟨hdmc, hreads⟩

theorem exec_event_dmcEvent {e : Event} {s t : State} (h : exec (decodeEvent e) s = .next t) : DmcEvent s t e := by
  cases e with
  | write w => exact exec_write_dmcEvent h
  | step =>
    obtain rfl := Host.Outcome.next.inj ((exec_step s).symm.trans h)
    exact s.cycle_resample_dmcEvent
  | reset =>
    cases h
    exact .resets (.quietly rfl rfl)
  | pull | seek =>
    cases h
    exact .keeps _ (.quietly rfl rfl)

/-! ## The sample-playback interrupt flag (R219, R357) -/

/-- The result `o` of an operation on `d` has the flag of `d`, or has it raised by the fetch of the last byte of a
sample that does not loop, the enable bit set. -/
def Dmc.FlagRule (d : Dmc) (o : Dmc × Option Addr) : Prop :=
  o.1.irqFlag = d.irqFlag ∨
    (o.1.irqFlag = true ∧ d.loop = false ∧ d.irqEnable = true ∧ o.1.remaining = 0 ∧ o.2.toList.length = 1)

theorem Dmc.fill_flagRule (r : Latches) (m : List Host.Cell) (d : Dmc) : d.FlagRule (d.fill r m) := by
  by_cases hidle : d.bufFull = true ∨ d.remaining = 0
  · rw [Dmc.fill_idle hidle]
    exact .inl rfl
  obtain ⟨hbuf, hleft⟩ := not_or.mp hidle
  rw [Bool.not_eq_true] at hbuf
  by_cases hlast : d.remaining = 1
  · rw [Dmc.fill_ends hbuf hlast]
    cases hloop : d.loop with
    | true =>
      rw [Dmc.endSample_of_loop (d := d.fetchByte m) hloop]
      exact .inl rfl
    | false =>
      rw [Dmc.endSample_of_not_loop (d := d.fetchByte m) hloop]
      cases hen : d.irqEnable with
      | true => exact .inr ⟨by simp [Dmc.fetchByte, hen], hloop, hen, by simp [Dmc.fetchByte, hlast], rfl⟩
      | false => exact .inl (by simp [Dmc.fetchByte, hen])
  · rw [Dmc.fill_continues hbuf hleft hlast]
    exact .inl rfl

theorem Dmc.startOutputCycle_flagRule (r : Latches) (m : List Host.Cell) (d : Dmc) :
    d.FlagRule (d.startOutputCycle r m) := by
  cases hbuf : d.bufFull with
  | true =>
    rw [Dmc.startOutputCycle_full hbuf]
    exact Dmc.fill_flagRule r m _
  | false =>
    rw [Dmc.startOutputCycle_empty hbuf]
    exact .inl rfl

theorem Dmc.outputClock_flagRule (r : Latches) (m : List Host.Cell) (d : Dmc) :
    d.FlagRule (d.outputClock r m) := by
  rw [Dmc.outputClock, Dmc.shiftOut_frame]
  split
  · exact Dmc.startOutputCycle_flagRule r m _
  · exact .inl rfl

theorem Dmc.clockTimer_flagRule (r : Latches) (m : List Host.Cell) (d : Dmc) : d.FlagRule (d.clockTimer r m) := by
  rw [Dmc.clockTimer]
  split
  · exact Dmc.outputClock_flagRule r m _
  · exact .inl rfl

/-- An ENABLE write clears the flag first, and its fetch may raise it again (R290). -/
theorem Dmc.writeEnable_flagRule (on : Bool) (r : Latches) (m : List Host.Cell) (d : Dmc) :
    d.clearIrq.FlagRule (d.writeEnable on r m) := by
  cases on with
  | false => exact .inl rfl
  | true =>
    rw [Dmc.writeEnable, if_pos rfl]
    split <;> exact Dmc.fill_flagRule r m _

theorem Dmc.writeR0_irqFlag (d : Dmc) (b : Byte) : (d.writeR0 b).irqFlag = (d.irqFlag && Field.dmcIrqEnable b) := by
  cases h : Field.dmcIrqEnable b <;> simp [Dmc.writeR0, Dmc.clearIrq, h]

theorem dmcIrqEnable_wordByte (w : WriteWord) : Field.dmcIrqEnable (wordByte w) = w.getLsbD 7 := by
  simp [Field.dmcIrqEnable, wordByte]

section
variable {f : Latches → List Host.Cell → Dmc → Dmc × Option Addr} {s t : State} {e : Event}

theorem DmcAfter.raises (h : DmcAfter f s t) (hrule : s.dmc.FlagRule (f s.reg.dmc s.mem s.dmc))
    (hclear : s.dmc.irqFlag = false) (hset : t.dmc.irqFlag = true) :
    s.dmc.loop = false ∧ s.dmc.irqEnable = true ∧ t.dmc.remaining = 0 ∧
      t.obs.reads.length = s.obs.reads.length + 1 := by
  rw [h.dmc] at hset ⊢
  obtain hkept | ⟨-, hloop, henable, hremaining, hread⟩ := hrule
  · rw [hkept, hclear] at hset
    cases hset
  · exact ⟨hloop, henable, hremaining, by rw [h.reads, List.length_append, hread]⟩

theorem DmcAfter.keeps_flag (h : DmcAfter f s t) (hrule : s.dmc.FlagRule (f s.reg.dmc s.mem s.dmc))
    (hset : s.dmc.irqFlag = true) : t.dmc.irqFlag = true := by
  rw [h.dmc]
  obtain hkept | ⟨hraised, -⟩ := hrule
  · rw [hkept, hset]
  · exact hraised

/-- Each event that does not clear the flag obeys the rule, and so does each that does, from a clear flag. -/
theorem DmcEvent.raises (h : DmcEvent s t e) (hclear : s.dmc.irqFlag = false) (hset : t.dmc.irqFlag = true) :
    s.dmc.loop = false ∧ s.dmc.irqEnable = true ∧ t.dmc.remaining = 0 ∧
      t.obs.reads.length = s.obs.reads.length + 1 := by
  cases h with
  | keeps _ h | writesR1 _ h => exact h.raises (.inl rfl) hclear hset
  | clocks h => exact h.raises (Dmc.clockTimer_flagRule _ _ _) hclear hset
  | resets h => exact h.raises (.inl hclear.symm) hclear hset
  | writesR0 w hid h =>
    exact h.raises (.inl (by simp [Dmc.quietly, Dmc.writeR0_irqFlag, hclear])) hclear hset
  | enables w hid h =>
    have hrule := Dmc.writeEnable_flagRule (Field.enableDmc (wordByte w)) s.reg.dmc s.mem s.dmc
    refine h.raises ?_ hclear hset
    rw [Dmc.FlagRule, hclear]
    exact hrule

theorem DmcEvent.clears (h : DmcEvent s t e) (hset : s.dmc.irqFlag = true) (hclear : t.dmc.irqFlag = false) :
    e = .reset ∨ ∃ w, e = .write w ∧ (wordId w = 0x15 ∨ wordId w = 0x10 ∧ w.getLsbD 7 = false) := by
  cases h with
  | keeps _ h | writesR1 _ h => simp [h.keeps_flag (.inl rfl) hset] at hclear
  | clocks h => simp [h.keeps_flag (Dmc.clockTimer_flagRule _ _ _) hset] at hclear
  | resets h => exact .inl rfl
  | writesR0 w hid h =>
    have hbit : w.getLsbD 7 = false := by
      simpa [h.dmc, Dmc.quietly, Dmc.writeR0_irqFlag, hset, dmcIrqEnable_wordByte] using hclear
    exact .inr ⟨w, rfl, .inr ⟨hid, hbit⟩⟩
  | enables w hid h => exact .inr ⟨w, rfl, .inl hid⟩

end

/-- Settles O47: by cases of the event taken, for the flag that the channel has before and after it. -/
theorem dmcInterruptFlag : Obligations.DmcInterruptFlag := by
  intro s t hstep
  obtain ⟨-, ht⟩ | ⟨e, rest, hpending, ht⟩ := step_cases hstep
  · obtain rfl := Host.Outcome.next.inj ht
    exact ⟨fun hclear hset => by simp [hset] at hclear, fun hset hclear => by simp [hset] at hclear⟩
  · have hevent := exec_event_dmcEvent ht.symm
    have hhead : s.pending.head? = some e := by rw [hpending, List.head?_cons]
    refine ⟨fun hclear hset => hevent.raises hclear hset, fun hset hclear => ?_⟩
    obtain rfl | ⟨w, rfl, hw⟩ := hevent.clears hset hclear
    · exact .inl hhead
    · exact .inr ⟨w, hhead, hw⟩

end Sys2Proof.Machine

/-! # The invariant of the machine (R41): one predicate for each component, kept by each of its operations -/

namespace Sys2Proof.Machine

/-! ## The invariant of one channel (R41 (b), (c), (k), (m)) -/

/-- The part of `ChannelsSound` that speaks of one pulse channel. -/
structure Pulse.Sound (p : Pulse) : Prop where
  len : p.len.Sound
  env : p.env.Sound
  halt : p.len.halt = p.env.loop

/-- The part of `ChannelsSound` that speaks of the triangle. -/
structure Triangle.Sound (t : Triangle) : Prop where
  len : t.len.Sound
  halt : t.len.halt = t.control

/-- The part of `ChannelsSound` that speaks of the noise channel. -/
structure Noise.Sound (n : Noise) : Prop where
  len : n.len.Sound
  env : n.env.Sound
  halt : n.len.halt = n.env.loop
  lfsr : n.lfsr ≠ 0

theorem channelsSound_iff (s : State) :
    ChannelsSound s ↔ s.p1.Sound ∧ s.p2.Sound ∧ s.tri.Sound ∧ s.noi.Sound where
  mp h := ⟨⟨h.p1Len, h.p1Env, h.p1Halt⟩, ⟨h.p2Len, h.p2Env, h.p2Halt⟩, ⟨h.triLen, h.triHalt⟩,
    ⟨h.noiLen, h.noiEnv, h.noiHalt, h.lfsr⟩⟩
  mpr := fun ⟨h1, h2, ht, hn⟩ => ⟨h1.len, h2.len, ht.len, hn.len, h1.env, h2.env, hn.env, h1.halt, h2.halt, ht.halt,
    hn.halt, hn.lfsr⟩

/-! ### Length counters -/

theorem LengthCounter.load_halt (l : LengthCounter) (i : BitVec 5) : (l.load i).halt = l.halt := by
  rw [LengthCounter.load_eq]

theorem LengthCounter.setEnabled_halt (l : LengthCounter) (e : Bool) : (l.setEnabled e).halt = l.halt := by
  rw [LengthCounter.setEnabled_eq]

theorem lengthEntry_le (i : BitVec 5) : (lengthEntry i).toNat ≤ 254 := by
  revert i
  decide

theorem LengthCounter.Sound.setEnabled {l : LengthCounter} (h : l.Sound) (e : Bool) : (l.setEnabled e).Sound := by
  obtain ⟨hbound, -⟩ := h
  cases e with
  | true => exact ⟨hbound, Bool.noConfusion⟩
  | false => exact ⟨Nat.zero_le _, fun _ => rfl⟩

theorem LengthCounter.Sound.load {l : LengthCounter} (h : l.Sound) (i : BitVec 5) : (l.load i).Sound := by
  unfold LengthCounter.load
  split
  next hen => exact ⟨lengthEntry_le i, fun hdis => absurd hdis (by simp [hen])⟩
  next => exact h

theorem LengthCounter.Sound.clock {l : LengthCounter} (h : l.Sound) : l.clock.Sound := by
  obtain ⟨hbound, hdisabled⟩ := h
  rw [LengthCounter.clock_eq]
  split
  next hcounts =>
    obtain ⟨-, hcounter⟩ := hcounts
    have hbound' : (l.counter - 1).toNat ≤ 254 := by
      rw [toNat_sub_one_of_ne_zero hcounter]
      omega
    exact ⟨hbound', fun hdis => absurd (hdisabled hdis) hcounter⟩
  next => exact ⟨hbound, hdisabled⟩

/-! ### Envelopes -/

theorem Envelope.Sound.clock {e : Envelope} (h : e.Sound) : e.clock.Sound := by
  rw [Envelope.Sound, Envelope.clock_period, Envelope.clock_constantLevel]
  exact h

theorem Envelope.writeControl_sound (e : Envelope) (b : Byte) : (e.writeControl b).Sound := rfl

/-! ### Pulse channels -/

theorem Pulse.Sound.writeR0 {p : Pulse} (h : p.Sound) (b : Byte) : (p.writeR0 b).Sound :=
  ⟨h.len, p.env.writeControl_sound b, rfl⟩

theorem Pulse.Sound.writeR1 {p : Pulse} (h : p.Sound) (b : Byte) : (p.writeR1 b).Sound := ⟨h.len, h.env, h.halt⟩

theorem Pulse.Sound.writeR2 {p : Pulse} (h : p.Sound) (b : Byte) : (p.writeR2 b).Sound := ⟨h.len, h.env, h.halt⟩

theorem Pulse.Sound.writeR3 {p : Pulse} (h : p.Sound) (b : Byte) : (p.writeR3 b).Sound :=
  ⟨h.len.load _, h.env, (p.len.load_halt _).trans h.halt⟩

theorem Pulse.Sound.setEnabled {p : Pulse} (h : p.Sound) (e : Bool) :
    ({ p with len := p.len.setEnabled e } : Pulse).Sound :=
  ⟨h.len.setEnabled e, h.env, (p.len.setEnabled_halt e).trans h.halt⟩

theorem Pulse.Sound.clockTimer {p : Pulse} (h : p.Sound) (x : PulseId) : (p.clockTimer x).Sound := by
  simp only [Pulse.clockTimer]
  generalize p.timer.clock _ = t
  split <;> exact ⟨h.len, h.env, h.halt⟩

theorem Pulse.Sound.clockQuarterFrame {p : Pulse} (h : p.Sound) : p.clockQuarterFrame.Sound :=
  ⟨h.len, h.env.clock, h.halt.trans p.env.clock_loop.symm⟩

theorem Pulse.Sound.clockHalfFrame {p : Pulse} (h : p.Sound) (x : PulseId) : (p.clockHalfFrame x).Sound := by
  have hlen : (p.clockHalfFrame x).len = p.len.clock := Pulse.sweepClock_len _ x
  have henv : (p.clockHalfFrame x).env = p.env := Pulse.sweepClock_env _ x
  exact ⟨hlen ▸ h.len.clock, henv ▸ h.env, by rw [hlen, henv, LengthCounter.clock_halt, h.halt]⟩

/-! ### The triangle -/

theorem Triangle.Sound.setEnabled {t : Triangle} (h : t.Sound) (e : Bool) :
    ({ t with len := t.len.setEnabled e } : Triangle).Sound :=
  ⟨h.len.setEnabled e, (t.len.setEnabled_halt e).trans h.halt⟩

theorem Triangle.Sound.load {t : Triangle} (h : t.Sound) (i : BitVec 5) :
    ({ t with len := t.len.load i } : Triangle).Sound :=
  ⟨h.len.load i, (t.len.load_halt i).trans h.halt⟩

theorem Triangle.Sound.clockTimer {t : Triangle} (h : t.Sound) : t.clockTimer.Sound := by
  simp only [Triangle.clockTimer]
  split <;> exact ⟨h.len, h.halt⟩

theorem Triangle.Sound.clockQuarterFrame {t : Triangle} (h : t.Sound) : t.clockQuarterFrame.Sound := by
  rw [Triangle.clockQuarterFrame, Triangle.linearClock_eq]
  exact ⟨h.len, h.halt⟩

theorem Triangle.Sound.clockHalfFrame {t : Triangle} (h : t.Sound) : t.clockHalfFrame.Sound :=
  ⟨h.len.clock, t.len.clock_halt.trans h.halt⟩

/-! ### The noise channel -/

/-- The only register whose shift loses every bit holds a 1 in bit 0 alone, for which the feedback is 1. -/
theorem Noise.advance_lfsr_ne_zero {n : Noise} (h : n.lfsr ≠ 0) : n.advance.lfsr ≠ 0 := by
  intro hzero
  have hnat : n.advance.lfsr.toNat = 0 := by rw [hzero]; rfl
  have hpos : n.lfsr.toNat ≠ 0 := BitVec.toNat_ne_iff_ne.mpr h
  rw [Noise.advance_lfsr_toNat] at hnat
  have hone : n.lfsr = 1 := BitVec.eq_of_toNat_eq (by change n.lfsr.toNat = 1; omega)
  have hfeedback : n.feedback = true := by cases hmode : n.mode <;> simp [Noise.feedback, hone, hmode]
  rw [hfeedback] at hnat
  simp at hnat

theorem Noise.Sound.writeControl {n : Noise} (h : n.Sound) (b : Byte) :
    ({ n with len := n.len.setHalt (Field.halt b), env := n.env.writeControl b } : Noise).Sound :=
  ⟨h.len, n.env.writeControl_sound b, rfl, h.lfsr⟩

theorem Noise.Sound.setEnabled {n : Noise} (h : n.Sound) (e : Bool) :
    ({ n with len := n.len.setEnabled e } : Noise).Sound :=
  ⟨h.len.setEnabled e, h.env, (n.len.setEnabled_halt e).trans h.halt, h.lfsr⟩

theorem Noise.Sound.load {n : Noise} (h : n.Sound) (i : BitVec 5) :
    ({ n with len := n.len.load i } : Noise).Sound :=
  ⟨h.len.load i, h.env, (n.len.load_halt i).trans h.halt, h.lfsr⟩

theorem Noise.Sound.clockTimer {n : Noise} (h : n.Sound) : n.clockTimer.Sound := by
  simp only [Noise.clockTimer]
  split
  · exact ⟨h.len, h.env, h.halt, Noise.advance_lfsr_ne_zero h.lfsr⟩
  · exact ⟨h.len, h.env, h.halt, h.lfsr⟩

theorem Noise.Sound.clockQuarterFrame {n : Noise} (h : n.Sound) : n.clockQuarterFrame.Sound :=
  ⟨h.len, h.env.clock, h.halt.trans n.env.clock_loop.symm, h.lfsr⟩

theorem Noise.Sound.clockHalfFrame {n : Noise} (h : n.Sound) : n.clockHalfFrame.Sound :=
  ⟨h.len.clock, h.env, n.len.clock_halt.trans h.halt, h.lfsr⟩

/-! ### The channels together -/

theorem ChannelsSound.clockQuarterFrameAll {s : State} (h : ChannelsSound s) :
    ChannelsSound s.clockQuarterFrameAll := by
  obtain ⟨h1, h2, ht, hn⟩ := (channelsSound_iff s).mp h
  exact (channelsSound_iff _).mpr
    ⟨h1.clockQuarterFrame, h2.clockQuarterFrame, ht.clockQuarterFrame, hn.clockQuarterFrame⟩

theorem ChannelsSound.clockHalfFrameAll {s : State} (h : ChannelsSound s) : ChannelsSound s.clockHalfFrameAll := by
  obtain ⟨h1, h2, ht, hn⟩ := (channelsSound_iff s).mp h
  exact (channelsSound_iff _).mpr
    ⟨h1.clockHalfFrame .p1, h2.clockHalfFrame .p2, ht.clockHalfFrame, hn.clockHalfFrame⟩

/-- The invariant speaks of the four channels alone. -/
theorem ChannelsSound.of_eq {s t : State} (h : ChannelsSound s) (h1 : t.p1 = s.p1) (h2 : t.p2 = s.p2)
    (htri : t.tri = s.tri) (hnoi : t.noi = s.noi) : ChannelsSound t := by
  rw [channelsSound_iff, h1, h2, htri, hnoi, ← channelsSound_iff]
  exact h

/-- Where the model chooses between two states, it is enough that both are sound. -/
theorem ChannelsSound.ite {c : Prop} [Decidable c] {s t : State} (hs : ChannelsSound s) (ht : ChannelsSound t) :
    ChannelsSound (if c then s else t) := by
  split
  · exact hs
  · exact ht

theorem ChannelsSound.doPosition {s : State} (h : ChannelsSound s) (quarter half irq : Bool) :
    ChannelsSound (s.doPosition quarter half irq) := by
  have hquarter := ChannelsSound.ite (c := quarter) h.clockQuarterFrameAll h
  have hhalf := ChannelsSound.ite (c := half) hquarter.clockHalfFrameAll hquarter
  exact .ite (hhalf.of_eq rfl rfl rfl rfl) hhalf

theorem ChannelsSound.fsClock {s : State} (h : ChannelsSound s) : ChannelsSound s.fsClock := by
  have hdiv : ChannelsSound { s with fs.div := s.fs.div.clock.1 } := h.of_eq rfl rfl rfl rfl
  exact .ite ((hdiv.doPosition _ _ _).of_eq rfl rfl rfl rfl) hdiv

theorem ChannelsSound.writeMode {s : State} (h : ChannelsSound s) (m inh : Bool) :
    ChannelsSound (s.writeMode m inh) := by
  have hfs : ChannelsSound { s with fs := s.fs.writeMode m inh } := h.of_eq rfl rfl rfl rfl
  exact .ite hfs.clockQuarterFrameAll.clockHalfFrameAll hfs

theorem ChannelsSound.clockTimers {s : State} (h : ChannelsSound s) : ChannelsSound s.clockTimers := by
  obtain ⟨h1, h2, ht, hn⟩ := (channelsSound_iff s).mp h
  have htri : ChannelsSound { s with tri := s.tri.clockTimer } :=
    (channelsSound_iff _).mpr ⟨h1, h2, ht.clockTimer, hn⟩
  have hall : ChannelsSound ({ s with tri := s.tri.clockTimer } : State).clockHalfRateTimers :=
    (channelsSound_iff _).mpr ⟨h1.clockTimer .p1, h2.clockTimer .p2, ht.clockTimer, hn.clockTimer⟩
  exact (ChannelsSound.ite (c := s.phase2) htri hall).of_eq rfl rfl rfl rfl

/-- Each register write keeps its own channel sound (R262 to R290), and a FRAME write may clock all of them (R304).  The
alternatives of `decodeWord` are in the order of the ids, from `h_1` for id 0x00. -/
theorem ChannelsSound.write {w : WriteWord} {s t : State} (h : ChannelsSound s)
    (ht : exec (decodeWord w) s = .next t) : ChannelsSound t := by
  obtain ⟨h1, h2, htri, hnoi⟩ := (channelsSound_iff s).mp h
  unfold decodeWord at ht
  split at ht <;> cases ht
  case h_24 => exact h.writeMode _ _
  all_goals rw [channelsSound_iff]
  case h_1 => exact ⟨h1.writeR0 _, h2, htri, hnoi⟩
  case h_2 => exact ⟨h1.writeR1 _, h2, htri, hnoi⟩
  case h_3 => exact ⟨h1.writeR2 _, h2, htri, hnoi⟩
  case h_4 => exact ⟨h1.writeR3 _, h2, htri, hnoi⟩
  case h_5 => exact ⟨h1, h2.writeR0 _, htri, hnoi⟩
  case h_6 => exact ⟨h1, h2.writeR1 _, htri, hnoi⟩
  case h_7 => exact ⟨h1, h2.writeR2 _, htri, hnoi⟩
  case h_8 => exact ⟨h1, h2.writeR3 _, htri, hnoi⟩
  case h_9 => exact ⟨h1, h2, ⟨htri.len, rfl⟩, hnoi⟩
  case h_11 => exact ⟨h1, h2, ⟨htri.len, htri.halt⟩, hnoi⟩
  case h_12 => exact ⟨h1, h2, ⟨(htri.load _).len, (htri.load _).halt⟩, hnoi⟩
  case h_13 => exact ⟨h1, h2, htri, hnoi.writeControl _⟩
  case h_15 => exact ⟨h1, h2, htri, ⟨hnoi.len, hnoi.env, hnoi.halt, hnoi.lfsr⟩⟩
  case h_16 => exact ⟨h1, h2, htri, ⟨(hnoi.load _).len, hnoi.env, (hnoi.load _).halt, hnoi.lfsr⟩⟩
  case h_22 => exact ⟨h1.setEnabled _, h2.setEnabled _, htri.setEnabled _, hnoi.setEnabled _⟩
  all_goals exact ⟨h1, h2, htri, hnoi⟩

/-! ## The invariant of the sample-playback channel (R41 (l), R219, R70) -/

/-- The part of `DmcSound` that speaks of the channel, without the record of addresses. -/
structure Dmc.Sound (d : Dmc) : Prop where
  bitsLow : 1 ≤ d.bits.toNat
  bitsHigh : d.bits.toNat ≤ 8
  remaining : d.remaining.toNat ≤ 4081
  buffer : d.bufFull = false → d.remaining = 0
  window : d.remaining ≠ 0 → 0x8000 ≤ d.curAddr.toNat

theorem dmcSound_iff (s : State) : DmcSound s ↔ s.dmc.Sound ∧ ∀ a ∈ s.obs.reads, 0x8000 ≤ a.toNat where
  mp h := ⟨⟨h.bitsLow, h.bitsHigh, h.remaining, h.buffer, h.window⟩, h.reads⟩
  mpr := fun ⟨h, hreads⟩ => ⟨h.bitsLow, h.bitsHigh, h.remaining, h.buffer, h.window, hreads⟩

/-- What a sound operation of the channel leaves: a sound channel, and an address of the window if any. -/
def Dmc.SoundResult (o : Dmc × Option Addr) : Prop := o.1.Sound ∧ ∀ a ∈ o.2, 0x8000 ≤ a.toNat

/-- A sample begins at 0xC000 or above (R35), inside the window. -/
theorem sampleAddress_ge (r : Latches) : 0x8000 ≤ (sampleAddress r).toNat := by
  have hbyte := r.r2.isLt
  rw [sampleAddress, BitVec.toNat_ofNat, Nat.mod_eq_of_lt (by omega)]
  omega

theorem sampleLength_le (r : Latches) : (sampleLength r).toNat ≤ 4081 := by
  have hbyte := r.r3.isLt
  rw [sampleLength, BitVec.toNat_ofNat, Nat.mod_eq_of_lt (by omega)]
  omega

/-- R219: the address wraps into the window, not to 0. -/
theorem Dmc.nextAddr_ge {a : Addr} (h : 0x8000 ≤ a.toNat) : 0x8000 ≤ (Dmc.nextAddr a).toNat := by
  unfold Dmc.nextAddr
  split
  · decide
  · bv_omega

/-- The channel as the memory reader may find it: sound, but the buffer may be empty with bytes remaining. -/
structure Dmc.Readable (d : Dmc) : Prop where
  bitsLow : 1 ≤ d.bits.toNat
  bitsHigh : d.bits.toNat ≤ 8
  remaining : d.remaining.toNat ≤ 4081
  window : d.remaining ≠ 0 → 0x8000 ≤ d.curAddr.toNat

theorem Dmc.Readable.restartSample {d : Dmc} (h : d.Readable) (r : Latches) : (d.restartSample r).Readable :=
  ⟨h.bitsLow, h.bitsHigh, sampleLength_le r, fun _ => sampleAddress_ge r⟩

theorem Dmc.Readable.fetchByte {d : Dmc} (h : d.Readable) (hleft : d.remaining ≠ 0) (m : List Host.Cell) :
    (d.fetchByte m).Readable := by
  have hremaining : (d.remaining - 1).toNat ≤ 4081 := by
    rw [toNat_sub_one_of_ne_zero hleft]
    exact (Nat.sub_le _ _).trans h.remaining
  exact ⟨h.bitsLow, h.bitsHigh, hremaining, fun _ => Dmc.nextAddr_ge (h.window hleft)⟩

theorem Dmc.Readable.endSample {d : Dmc} (h : d.Readable) (r : Latches) : (d.endSample r).Readable := by
  cases hloop : d.loop with
  | true =>
    rw [Dmc.endSample_of_loop hloop]
    exact h.restartSample r
  | false =>
    rw [Dmc.endSample_of_not_loop hloop]
    exact ⟨h.bitsLow, h.bitsHigh, h.remaining, h.window⟩

theorem Dmc.endSample_bufFull (r : Latches) (d : Dmc) : (d.endSample r).bufFull = d.bufFull := by
  unfold Dmc.endSample
  split
  · rfl
  · split <;> rfl

/-- After the memory reader the buffer is empty only if no byte remained. -/
theorem Dmc.Readable.fill {d : Dmc} (h : d.Readable) (r : Latches) (m : List Host.Cell) :
    Dmc.SoundResult (d.fill r m) := by
  by_cases hidle : d.bufFull = true ∨ d.remaining = 0
  · rw [Dmc.fill_idle hidle]
    have hbuffer (hempty : d.bufFull = false) : d.remaining = 0 := hidle.resolve_left (by simp [hempty])
    exact ⟨⟨h.bitsLow, h.bitsHigh, h.remaining, hbuffer, h.window⟩, by simp⟩
  obtain ⟨hbuf, hleft⟩ := not_or.mp hidle
  rw [Bool.not_eq_true] at hbuf
  have hwindow : ∀ a ∈ some d.curAddr, 0x8000 ≤ a.toNat := by simpa using h.window hleft
  have hfetched := h.fetchByte hleft m
  by_cases hlast : d.remaining = 1
  · have hended := hfetched.endSample r
    have hfull : ((d.fetchByte m).endSample r).bufFull = true := Dmc.endSample_bufFull r _
    rw [Dmc.fill_ends hbuf hlast]
    exact ⟨⟨hended.bitsLow, hended.bitsHigh, hended.remaining, by simp [hfull], hended.window⟩, hwindow⟩
  · rw [Dmc.fill_continues hbuf hleft hlast]
    exact ⟨⟨hfetched.bitsLow, hfetched.bitsHigh, hfetched.remaining, Bool.noConfusion, hfetched.window⟩, hwindow⟩

theorem Dmc.Sound.writeEnable {d : Dmc} (h : d.Sound) (on : Bool) (r : Latches) (m : List Host.Cell) :
    Dmc.SoundResult (d.writeEnable on r m) := by
  have hcleared : d.clearIrq.Readable := ⟨h.bitsLow, h.bitsHigh, h.remaining, h.window⟩
  cases on with
  | false =>
    have hstopped : ({ d.clearIrq with remaining := 0 } : Dmc).Sound :=
      ⟨h.bitsLow, h.bitsHigh, Nat.zero_le _, fun _ => rfl, fun hleft => absurd rfl hleft⟩
    exact ⟨hstopped, by simp [Dmc.writeEnable]⟩
  | true =>
    rw [Dmc.writeEnable, if_pos rfl]
    split
    · exact (hcleared.restartSample r).fill r m
    · exact hcleared.fill r m

/-- R222: a new cycle has 8 bits, whatever the count was. -/
theorem Dmc.startOutputCycle_sound {d : Dmc} (hremaining : d.remaining.toNat ≤ 4081)
    (hbuffer : d.bufFull = false → d.remaining = 0) (hwindow : d.remaining ≠ 0 → 0x8000 ≤ d.curAddr.toNat)
    (r : Latches) (m : List Host.Cell) : Dmc.SoundResult (d.startOutputCycle r m) := by
  have hlow : 1 ≤ (8 : BitVec 4).toNat := by decide
  have hhigh : (8 : BitVec 4).toNat ≤ 8 := by decide
  cases hbuf : d.bufFull with
  | true =>
    have hreadable : ({ d with bits := 8, silence := false, shift := d.buf, bufFull := false } : Dmc).Readable :=
      ⟨hlow, hhigh, hremaining, hwindow⟩
    rw [Dmc.startOutputCycle_full hbuf]
    exact hreadable.fill r m
  | false =>
    rw [Dmc.startOutputCycle_empty hbuf]
    exact ⟨⟨hlow, hhigh, hremaining, hbuffer, hwindow⟩, by simp⟩

theorem Dmc.Sound.outputClock {d : Dmc} (h : d.Sound) (r : Latches) (m : List Host.Cell) :
    Dmc.SoundResult (d.outputClock r m) := by
  by_cases hlast : d.bits = 1
  · rw [Dmc.outputClock_last hlast]
    refine Dmc.startOutputCycle_sound ?_ ?_ ?_ r m <;> rw [Dmc.shiftOut_frame]
    exacts [h.remaining, h.buffer, h.window]
  · have hbits : d.shiftOut.bits = d.bits - 1 := by rw [Dmc.shiftOut_eq]
    have hlow := h.bitsLow
    have hhigh := h.bitsHigh
    rw [Dmc.outputClock_continues hlast, Dmc.shiftOut_frame, hbits]
    have hlow' : 1 ≤ (d.bits - 1).toNat := by bv_omega
    have hhigh' : (d.bits - 1).toNat ≤ 8 := by bv_omega
    exact ⟨⟨hlow', hhigh', h.remaining, h.buffer, h.window⟩, by simp⟩

theorem Dmc.Sound.clockTimer {d : Dmc} (h : d.Sound) (r : Latches) (m : List Host.Cell) :
    Dmc.SoundResult (d.clockTimer r m) := by
  have htimer (t : Timer 8) : ({ d with timer := t } : Dmc).Sound :=
    ⟨h.bitsLow, h.bitsHigh, h.remaining, h.buffer, h.window⟩
  rw [Dmc.clockTimer]
  split
  · exact (htimer _).outputClock r m
  · exact ⟨htimer _, by simp⟩

theorem Dmc.reset_sound : Dmc.reset.Sound := ⟨by decide, by decide, by decide, fun _ => rfl, fun h => absurd rfl h⟩

theorem Dmc.Sound.writeR0 {d : Dmc} (h : d.Sound) (b : Byte) : (d.writeR0 b).Sound := by
  unfold Dmc.writeR0
  split <;> exact ⟨h.bitsLow, h.bitsHigh, h.remaining, h.buffer, h.window⟩

theorem Dmc.Sound.setLevel {d : Dmc} (h : d.Sound) (v : BitVec 7) : ({ d with level := v } : Dmc).Sound :=
  ⟨h.bitsLow, h.bitsHigh, h.remaining, h.buffer, h.window⟩

theorem DmcAfter.sound {f : Latches → List Host.Cell → Dmc → Dmc × Option Addr} {s t : State} (h : DmcAfter f s t)
    (hs : DmcSound s) (hf : s.dmc.Sound → Dmc.SoundResult (f s.reg.dmc s.mem s.dmc)) : DmcSound t := by
  obtain ⟨hdmc, hreads⟩ := (dmcSound_iff s).mp hs
  obtain ⟨hresult, hread⟩ := hf hdmc
  rw [dmcSound_iff, h.dmc, h.reads]
  refine ⟨hresult, fun a ha => ?_⟩
  obtain hold | hnew := List.mem_append.mp ha
  · exact hreads a hold
  · exact hread a (Option.mem_toList.mp hnew)

theorem Dmc.quietly_sound {g : Dmc → Dmc} {d : Dmc} (h : (g d).Sound) (r : Latches) (m : List Host.Cell) :
    Dmc.SoundResult (Dmc.quietly g r m d) := ⟨h, by simp [Dmc.quietly]⟩

theorem DmcEvent.sound {e : Event} {s t : State} (h : DmcEvent s t e) (hs : DmcSound s) : DmcSound t := by
  cases h with
  | keeps _ h => exact h.sound hs fun hd => Dmc.quietly_sound hd _ _
  | clocks h => exact h.sound hs fun hd => hd.clockTimer _ _
  | resets h => exact h.sound hs fun _ => Dmc.quietly_sound Dmc.reset_sound _ _
  | writesR0 w hid h => exact h.sound hs fun hd => Dmc.quietly_sound (hd.writeR0 _) _ _
  | writesR1 w h => exact h.sound hs fun hd => Dmc.quietly_sound (hd.setLevel _) _ _
  | enables w hid h => exact h.sound hs fun hd => hd.writeEnable _ _ _

/-! ## The invariant of the sequencer (R41 (h), R300) -/

/-- `SequencerSound` as a predicate of the sequencer. -/
structure FrameSequencer.Sound (f : FrameSequencer) : Prop where
  step : f.step.toNat < f.mode.positions
  period : f.div.period = Config.fsStepPeriod
  counter : f.div.counter.toNat ≤ f.div.period.toNat

theorem sequencerSound_iff (s : State) : SequencerSound s ↔ s.fs.Sound where
  mp h := ⟨h.step, h.period, h.counter⟩
  mpr h := ⟨h.step, h.period, h.counter⟩

theorem FsMode.positions_pos_le (m : FsMode) : 0 < m.positions ∧ m.positions ≤ 5 := by cases m <;> decide

theorem FrameSequencer.nextStep_lt (f : FrameSequencer) : f.nextStep.toNat < f.mode.positions := by
  obtain ⟨hpos, hle⟩ := f.mode.positions_pos_le
  have hlt := Nat.mod_lt (f.step.toNat + 1) hpos
  rw [FrameSequencer.nextStep, BitVec.toNat_ofNat, Nat.mod_eq_of_lt (by omega)]
  exact hlt

theorem FrameSequencer.Sound.clockDiv {f : FrameSequencer} (h : f.Sound) :
    ({ f with div := f.div.clock.1 } : FrameSequencer).Sound := by
  have hcounter := f.div.clock_counter_le
  have hperiod := f.div.clock_period
  refine ⟨h.step, hperiod.trans h.period, ?_⟩
  dsimp only
  rw [hperiod]
  rwa [Nat.max_eq_left h.counter] at hcounter

theorem FrameSequencer.Sound.writeMode {f : FrameSequencer} (h : f.Sound) (m inh : Bool) :
    (f.writeMode m inh).Sound := by
  unfold FrameSequencer.writeMode
  dsimp only
  split <;> exact ⟨(FsMode.positions_pos_le _).1, h.period, Nat.le_refl _⟩

theorem FrameSequencer.Sound.advance {f : FrameSequencer} (h : f.Sound) :
    ({ f with step := f.nextStep } : FrameSequencer).Sound := ⟨f.nextStep_lt, h.period, h.counter⟩

theorem State.doPosition_fs_sound {s : State} (h : s.fs.Sound) (q hf i : Bool) : (s.doPosition q hf i).fs.Sound := by
  rw [State.doPosition_fs]
  split
  · exact ⟨h.step, h.period, h.counter⟩
  · exact h

theorem State.fsClock_fs_sound {s : State} (h : s.fs.Sound) : s.fsClock.fs.Sound := by
  unfold State.fsClock
  dsimp only
  split
  · exact (State.doPosition_fs_sound h.clockDiv _ _ _).advance
  · exact h.clockDiv

theorem FrameSequencer.reset_sound : FrameSequencer.reset.Sound := ⟨by decide, rfl, Nat.le_refl _⟩

/-- Of the register writes only FRAME touches the sequencer (R292, R304). -/
theorem exec_write_fs {w : WriteWord} {s t : State} (h : exec (decodeWord w) s = .next t) :
    t.fs = s.fs ∨ ∃ m inh, t.fs = s.fs.writeMode m inh := by
  unfold decodeWord at h
  split at h <;> cases h
  case h_24 => exact .inr ⟨_, _, State.writeMode_fs _ _ _⟩
  all_goals exact .inl rfl

/-! ## The mix value (R324, R326, R327) -/

/-- The ratio `a n / (b + c n)` of R326 grows with `n`. -/
theorem mkRat_ratio_mono {a b c m n : Nat} (hb : 0 < b) (h : m ≤ n) :
    mkRat (a * m) (b + c * m) ≤ mkRat (a * n) (b + c * n) := by
  have hb' : (0 : ℚ) < b := by exact_mod_cast hb
  have h' : (m : ℚ) ≤ n := by exact_mod_cast h
  rw [Rat.mkRat_eq_div, Rat.mkRat_eq_div]
  push_cast
  rw [div_le_div_iff₀ (by positivity) (by positivity)]
  have hgap : (a : ℚ) * b * m ≤ a * b * n := by gcongr
  linarith

theorem pulseTable_mono {m n : Nat} (h : m ≤ n) : pulseTable m ≤ pulseTable n := mkRat_ratio_mono (by decide) h

theorem tndTable_mono {m n : Nat} (h : m ≤ n) : tndTable m ≤ tndTable n := mkRat_ratio_mono (by decide) h

theorem maxMix_eq : maxMix = pulseTable 30 + tndTable 202 := by decide +kernel

theorem maxMix_lt_one : maxMix < 1 := by decide +kernel

theorem volume_mul_bit_le (v : BitVec 4) (b : Bool) : v.toNat * b.toNat ≤ 15 :=
  Nat.mul_le_mul (Nat.le_of_lt_succ v.isLt) b.toNat_le

theorem Pulse.getValue_le (p : Pulse) (x : PulseId) : p.getValue x ≤ 15 := by
  unfold Pulse.getValue
  split
  · exact Nat.zero_le _
  · exact volume_mul_bit_le _ _

theorem Noise.getValue_le (n : Noise) : n.getValue ≤ 15 := by
  unfold Noise.getValue
  split
  · exact Nat.zero_le _
  · exact volume_mul_bit_le _ _

theorem triLevel_le (phase : BitVec 5) : triLevel phase ≤ 15 := by
  revert phase
  decide

theorem State.pulseIn_le (s : State) : s.pulseIn ≤ 30 :=
  Nat.add_le_add (Pulse.getValue_le s.p1 .p1) (Pulse.getValue_le s.p2 .p2)

theorem State.tndIn_le (s : State) : s.tndIn ≤ 202 := by
  have htri : s.tri.getValue ≤ 15 := triLevel_le _
  have hnoi := s.noi.getValue_le
  have hdmc : s.dmc.getValue < 2 ^ 7 := s.dmc.level.isLt
  unfold State.tndIn
  omega

theorem State.mixValue_nonneg (s : State) : 0 ≤ s.mixValue :=
  add_nonneg (pulseTable_mono (Nat.zero_le s.pulseIn)) (tndTable_mono (Nat.zero_le s.tndIn))

theorem State.mixValue_le (s : State) : s.mixValue ≤ maxMix := by
  rw [maxMix_eq]
  exact add_le_add (pulseTable_mono s.pulseIn_le) (tndTable_mono s.tndIn_le)

/-! ## The invariant of the mixer (R41 (j), R328 to R330) -/

/-- `MixerSound` as a predicate of the mixer. -/
structure Mixer.Sound (x : Mixer) : Prop where
  acc : x.acc < Config.cpuHz
  cycles : x.count * Config.sampleRate ≤ x.acc
  sumLow : 0 ≤ x.sum
  sumHigh : x.sum ≤ x.count * maxMix

theorem mixerSound_iff (s : State) : MixerSound s ↔ s.mix.Sound where
  mp h := ⟨h.acc, h.cycles, h.sumLow, h.sumHigh⟩
  mpr h := ⟨h.acc, h.cycles, h.sumLow, h.sumHigh⟩

theorem Mixer.reset_sound : Mixer.reset.Sound := ⟨by decide, by decide, by decide, by decide +kernel⟩

/-- The mixer within a `STEP`, between the sum of sub-step 4 and the resampler of sub-step 5. -/
structure Mixer.Summed (x : Mixer) : Prop where
  acc : x.acc < Config.cpuHz
  counted : 0 < x.count
  cycles : x.count * Config.sampleRate ≤ x.acc + Config.sampleRate
  sumLow : 0 ≤ x.sum
  sumHigh : x.sum ≤ x.count * maxMix

theorem Mixer.Sound.accumulate {x : Mixer} (h : x.Sound) {m : Rat} (hlow : 0 ≤ m) (hhigh : m ≤ maxMix) :
    (x.accumulate m).Summed := by
  obtain ⟨hacc, hcycles, hsumLow, hsumHigh⟩ := h
  have hcycles' : (x.count + 1) * Config.sampleRate ≤ x.acc + Config.sampleRate :=
    (Nat.add_one_mul _ _).trans_le (Nat.add_le_add_right hcycles _)
  have hsumHigh' : x.sum + m ≤ (x.count + 1 : Nat) * maxMix := by
    rw [Nat.cast_succ, add_one_mul]
    exact add_le_add hsumHigh hhigh
  exact ⟨hacc, Nat.succ_pos _, hcycles', add_nonneg hsumLow hlow, hsumHigh'⟩

/-- An average of mix values is one the scaling is given (R327, R331). -/
theorem Mixer.Summed.average_mem {x : Mixer} (h : x.Summed) : 0 ≤ x.average ∧ x.average < 1 := by
  have hcount : (0 : ℚ) < x.count := by exact_mod_cast h.counted
  rw [Mixer.average, if_neg (Nat.pos_iff_ne_zero.mp h.counted)]
  have hle : x.sum / x.count ≤ maxMix := by
    rw [div_le_iff₀ hcount, mul_comm]
    exact h.sumHigh
  exact ⟨div_nonneg h.sumLow hcount.le, hle.trans_lt maxMix_lt_one⟩

theorem scaleSample_inRange {avg : Rat} (hlow : 0 ≤ avg) (hhigh : avg < 1) :
    sampleInRange (scaleSample avg) = true := by
  have hfloorLow : 0 ≤ (avg * 65535).floor := Rat.le_floor_iff.mpr (by push_cast; positivity)
  have hfloorHigh : (avg * 65535).floor < 65535 := Rat.floor_lt_iff.mpr (by push_cast; linarith)
  have hsampleLow : (-32768 : Int) ≤ (avg * 65535).floor - 32768 := by omega
  have hsampleHigh : (avg * 65535).floor - 32768 ≤ (32767 : Int) := by omega
  exact Bool.and_eq_true_iff.mpr ⟨decide_eq_true hsampleLow, decide_eq_true hsampleHigh⟩

/-! ## The invariant of the FIFO (R41 (i), R331, R340) -/

/-- The part of `FifoSound` that speaks of the FIFO, without the record of samples. -/
structure Fifo.Sound (f : Fifo) : Prop where
  cap : 1 ≤ f.cap
  length : f.seq.length ≤ f.cap
  samples : ∀ x ∈ f.seq, sampleInRange x = true

theorem fifoSound_iff (s : State) : FifoSound s ↔ s.fifo.Sound ∧ ∀ x ∈ s.obs.emitted, sampleInRange x = true where
  mp h := ⟨⟨h.cap, h.length, h.samples⟩, h.emitted⟩
  mpr := fun ⟨h, hemitted⟩ => ⟨h.cap, h.length, h.samples, hemitted⟩

theorem forall_mem_append_sample {xs : List Sample} {x : Sample} (h : ∀ y ∈ xs, sampleInRange y = true)
    (hx : sampleInRange x = true) : ∀ y ∈ xs ++ [x], sampleInRange y = true := by
  intro y hy
  obtain hold | hnew := List.mem_append.mp hy
  · exact h y hold
  · rwa [List.mem_singleton.mp hnew]

/-- An append stores below the capacity, or makes room for the sample by at least one delivered one. -/
theorem Fifo.Sound.append {f : Fifo} (h : f.Sound) {x : Sample} (hx : sampleInRange x = true) :
    (f.append x).1.Sound := by
  obtain ⟨hcap, hlength, hsamples⟩ := h
  by_cases hroom : f.seq.length < f.cap
  · rw [Fifo.append_stores hroom]
    exact ⟨hcap, by simpa using hroom, forall_mem_append_sample hsamples hx⟩
  · by_cases hoff : f.off = 0
    · rw [Fifo.append_fails (by omega) hoff]
      exact ⟨hcap, hlength, hsamples⟩
    · rw [Fifo.append_compacts (by omega) hoff]
      have hkept (y : Sample) (hy : y ∈ f.seq.drop (min f.off f.seq.length)) : sampleInRange y = true :=
        hsamples y (List.mem_of_mem_drop hy)
      refine ⟨hcap, ?_, forall_mem_append_sample hkept hx⟩
      simp only [List.length_append, List.length_drop, List.length_singleton]
      omega

theorem Fifo.Sound.pull {f : Fifo} (h : f.Sound) : f.pull.1.Sound := by
  unfold Fifo.pull
  split <;> exact ⟨h.cap, h.length, h.samples⟩

/-! ## One `STEP` (R321) -/

theorem State.resample_mix_sound {s : State} (h : s.mix.Summed) : s.resample.mix.Sound := by
  have hacc := h.acc
  by_cases hemit : Config.cpuHz ≤ s.mix.acc + Config.sampleRate
  · rw [State.resample_emits hemit, State.emit_eq]
    have hleft : s.mix.acc + Config.sampleRate - Config.cpuHz < Config.cpuHz := by
      have hrate : Config.sampleRate < Config.cpuHz := by decide
      omega
    exact ⟨hleft, by simp, le_refl _, by simp⟩
  · rw [State.resample_within (by omega)]
    exact ⟨by dsimp only; omega, h.cycles, h.sumLow, h.sumHigh⟩

theorem State.resample_fifoSound {s : State} (h : FifoSound s) (hmix : s.mix.Summed) : FifoSound s.resample := by
  by_cases hemit : Config.cpuHz ≤ s.mix.acc + Config.sampleRate
  · obtain ⟨hlow, hhigh⟩ := hmix.average_mem
    have hsample := scaleSample_inRange hlow hhigh
    obtain ⟨hfifo, hemitted⟩ := (fifoSound_iff s).mp h
    have happended := hfifo.append hsample
    rw [State.resample_emits hemit, State.emit_eq, fifoSound_iff]
    exact ⟨⟨happended.cap, happended.length, happended.samples⟩, forall_mem_append_sample hemitted hsample⟩
  · rw [State.resample_within (by omega)]
    exact ⟨h.cap, h.length, h.samples, h.emitted⟩

theorem State.cycle_mix_summed {s : State} (h : s.mix.Sound) : s.cycle.mix.Summed := by
  have hmix : s.fsClock.clockTimers.mix = s.mix := by simp
  exact Mixer.Sound.accumulate (hmix ▸ h) (State.mixValue_nonneg _) (State.mixValue_le _)

/-- The two halves of a `STEP`: up to the sum each component keeps its own part, and the resampler then touches the
mixer and the FIFO alone. -/
theorem State.resample_cycle_sound {s : State} (h : Sound s) : Sound s.cycle.resample := by
  have hmix := State.cycle_mix_summed ((mixerSound_iff s).mp h.mixer)
  have hfs := State.fsClock_fs_sound ((sequencerSound_iff s).mp h.sequencer)
  have hcycle : FifoSound s.cycle := by
    rw [fifoSound_iff, State.cycle_fifo, State.cycle_emitted, ← fifoSound_iff]
    exact h.fifo
  exact {
    channels := by
      rw [State.resample_frame]
      exact h.channels.fsClock.clockTimers.of_eq rfl rfl rfl rfl
    dmc := s.cycle_resample_dmcEvent.sound h.dmc
    sequencer := by
      rw [State.resample_frame, sequencerSound_iff]
      simpa [State.cycle] using hfs
    mixer := (mixerSound_iff _).mpr (State.resample_mix_sound hmix)
    fifo := State.resample_fifoSound hcycle hmix
    memory := by
      rw [State.resample_frame]
      simpa [State.cycle] using h.memory }

/-! ## Every event -/

theorem Pulse.reset_sound : Pulse.reset.Sound := ⟨⟨Nat.zero_le _, fun _ => rfl⟩, rfl, rfl⟩
theorem Triangle.reset_sound : Triangle.reset.Sound := ⟨⟨Nat.zero_le _, fun _ => rfl⟩, rfl⟩
theorem Noise.reset_sound : Noise.reset.Sound := ⟨⟨Nat.zero_le _, fun _ => rfl⟩, rfl, rfl, by decide⟩

/-- No register write touches the mixer or the sample memory (R260). -/
theorem exec_write_mix_mem {w : WriteWord} {s t : State} (h : exec (decodeWord w) s = .next t) :
    t.mix = s.mix ∧ t.mem = s.mem := by
  unfold decodeWord at h
  split at h <;> cases h <;> simp [State.writeLengthEnables]

theorem Sound.write {w : WriteWord} {s t : State} (h : Sound s) (ht : exec (decodeWord w) s = .next t) : Sound t := by
  obtain ⟨hmix, hmem⟩ := exec_write_mix_mem ht
  have hstream := exec_write_sameStream w s t ht
  have hfs := (sequencerSound_iff s).mp h.sequencer
  exact {
    channels := h.channels.write ht
    dmc := (exec_write_dmcEvent ht).sound h.dmc
    sequencer := by
      rw [sequencerSound_iff]
      obtain hkept | ⟨m, inh, hwritten⟩ := exec_write_fs ht
      · exact hkept ▸ hfs
      · exact hwritten ▸ hfs.writeMode m inh
    mixer := (mixerSound_iff t).mpr (hmix ▸ (mixerSound_iff s).mp h.mixer)
    fifo := by
      rw [fifoSound_iff, hstream.fifo, hstream.emitted, ← fifoSound_iff]
      exact h.fifo
    memory := hmem ▸ h.memory }

/-- `RESET` gives every field its reset value but for the FIFO, the memory and the record of observations. -/
theorem Sound.reset {s t : State} (h : Sound s) (ht : exec .reset s = .next t) : Sound t := by
  cases ht
  exact {
    channels := (channelsSound_iff _).mpr
      ⟨Pulse.reset_sound, Pulse.reset_sound, Triangle.reset_sound, Noise.reset_sound⟩
    dmc := (dmcSound_iff _).mpr ⟨Dmc.reset_sound, h.dmc.reads⟩
    sequencer := (sequencerSound_iff _).mpr FrameSequencer.reset_sound
    mixer := (mixerSound_iff _).mpr Mixer.reset_sound
    fifo := (fifoSound_iff _).mpr ((fifoSound_iff s).mp h.fifo)
    memory := h.memory }

/-- The invariant does not speak of the events to come, nor of the consumer's side but for the FIFO. -/
theorem Sound.withConsumerSide {s : State} (h : Sound s) {f : Fifo} (hf : f.Sound) (r : Result) (d : List Sample)
    (es : List Event) : Sound ((s.withConsumerSide f r d).withEvents es) where
  channels := h.channels.of_eq rfl rfl rfl rfl
  dmc := (dmcSound_iff _).mpr ((dmcSound_iff s).mp h.dmc)
  sequencer := (sequencerSound_iff _).mpr ((sequencerSound_iff s).mp h.sequencer)
  mixer := (mixerSound_iff _).mpr ((mixerSound_iff s).mp h.mixer)
  fifo := (fifoSound_iff _).mpr ⟨hf, h.fifo.emitted⟩
  memory := h.memory

theorem Sound.event {e : Event} {s t : State} (h : Sound s) (ht : exec (decodeEvent e) s = .next t) : Sound t := by
  obtain ⟨hfifo, -⟩ := (fifoSound_iff s).mp h.fifo
  cases e with
  | write w => exact h.write ht
  | step =>
    obtain rfl := Host.Outcome.next.inj ((exec_step s).symm.trans ht)
    exact State.resample_cycle_sound h
  | reset => exact h.reset ht
  | pull =>
    obtain rfl := Host.Outcome.next.inj ((exec_pull s).symm.trans ht)
    exact h.withConsumerSide hfifo.pull _ _ s.pending
  | seek n =>
    obtain rfl := Host.Outcome.next.inj ((exec_seek n s).symm.trans ht)
    have hseek : (s.fifo.seek n).Sound := ⟨hfifo.cap, hfifo.length, hfifo.samples⟩
    exact h.withConsumerSide hseek _ _ s.pending

/-- Settles O59: by cases of the event taken, each part of the invariant by its own lemma for that event. -/
theorem soundIsKept : Obligations.SoundIsKept := by
  intro s t h hstep
  obtain ⟨-, ht⟩ | ⟨e, rest, -, ht⟩ := step_cases hstep
  · exact Host.Outcome.next.inj ht ▸ h
  · obtain ⟨hfifo, -⟩ := (fifoSound_iff s).mp h.fifo
    have hrest := h.withConsumerSide hfifo s.obs.result s.obs.delivered rest
    exact hrest.event ht.symm

end Sys2Proof.Machine

/-! # The channel family (R231 to R249) -/

namespace Sys2Proof.Machine

/-! ## The output values (R233, R238, R242, R245) -/

/-- R233: the two silencing signals on integers, in one condition. -/
theorem Pulse.getValue_eq (x : PulseId) (p : Pulse) : p.getValue x =
    if p.timer.div.period.toNat < 8 ∨ 0x7FF < targetOf x p ∨ p.len.counter = 0 then 0
    else p.env.getVolume.toNat * (dutyBit p.duty p.phase).toNat := by
  simp only [Pulse.getValue, Pulse.sweepSilence_eq_decide, LengthCounter.silences, Pulse.waveBit, decide_eq_true_eq,
    or_assoc]

/-- The negation of a bit as a number. -/
theorem toNat_not (b : Bool) : (!b).toNat = 1 - b.toNat := by cases b <;> rfl

/-- R213, R242: the waveform is the negation of the shift register's bit 0. -/
theorem Noise.getValue_eq (n : Noise) : n.getValue =
    if n.len.counter = 0 then 0 else n.env.getVolume.toNat * (1 - (n.lfsr.getLsbD 0).toNat) := by
  simp only [Noise.getValue, LengthCounter.silences, Noise.waveBit, decide_eq_true_eq, toNat_not]

theorem exec_pulseGetValue (x : PulseId) (s : State) :
    exec (.pulseGetValue x) s = .next { s with obs.result := .num ((s.pulse x).getValue x) } := rfl

theorem exec_triangleGetValue (s : State) :
    exec .triangleGetValue s = .next { s with obs.result := .num (triLevel s.tri.phase) } := rfl

theorem exec_noiseGetValue (s : State) :
    exec .noiseGetValue s = .next { s with obs.result := .num s.noi.getValue } := rfl

theorem exec_dmcGetValue (s : State) :
    exec .dmcGetValue s = .next { s with obs.result := .num s.dmc.level.toNat } := rfl

/-- Settles O42: each read answers its channel's value and changes nothing else; the two products of a volume and a
bit, and the triangle's sequence, stay below 16, and the level has 7 bits. -/
theorem channelValues : Obligations.ChannelValues := fun x s =>
  ⟨⟨_, Pulse.getValue_le _ x, Pulse.getValue_eq x _, exec_pulseGetValue x s⟩,
    ⟨_, triLevel_le _, rfl, exec_triangleGetValue s⟩,
    ⟨_, s.noi.getValue_le, s.noi.getValue_eq, exec_noiseGetValue s⟩,
    ⟨_, Nat.le_of_lt_succ s.dmc.level.isLt, rfl, exec_dmcGetValue s⟩⟩

/-! ## The two cases of an open timer's clock (R143, R150) -/

theorem Timer.clock_fires {w : Nat} {t : Timer w} {m : Nat} (hopen : m ≤ t.div.period.toNat)
    (hzero : t.div.counter = 0) : t.clock m = (⟨⟨t.div.period, t.div.period⟩⟩, true) := by
  rw [Timer.clock_open hopen, Divider.clock_fires hzero]

theorem Timer.clock_counts {w : Nat} {t : Timer w} {m : Nat} (hopen : m ≤ t.div.period.toNat)
    (hpos : t.div.counter ≠ 0) : t.clock m = (⟨⟨t.div.period, t.div.counter - 1⟩⟩, false) := by
  rw [Timer.clock_open hopen, Divider.clock_counts hpos]

/-! ## The pulse channels (R231, R234, R235) -/

theorem Pulse.clockTimer_fires {p : Pulse} (x : PulseId) (h : p.timer.div.counter = 0) : p.clockTimer x =
    { p with timer.div.counter := p.timer.div.period, phase := p.phase + 1 } := by
  cases x <;> rw [Pulse.clockTimer, minPeriod, Timer.clock_fires (Nat.zero_le _) h] <;> rfl

theorem Pulse.clockTimer_counts {p : Pulse} (x : PulseId) (h : p.timer.div.counter ≠ 0) : p.clockTimer x =
    { p with timer.div.counter := p.timer.div.counter - 1 } := by
  cases x <;> rw [Pulse.clockTimer, minPeriod, Timer.clock_counts (Nat.zero_le _) h] <;> rfl

theorem exec_pulseClockTimer (x : PulseId) (s : State) :
    exec (.pulseClockTimer x) s = .next (s.setPulse x ((s.pulse x).clockTimer x)) := rfl

/-- Settles O39: the timer's clock in its two cases; the quarter-frame clock is the envelope's, and the half-frame
clock the length counter's, then the sweep unit's. -/
theorem pulseClocks : Obligations.PulseClocks := by
  intro x s
  refine ⟨fun hzero => ?fires, fun hpos => ?counts, ?quarter, ?half⟩
  case fires => rw [exec_pulseClockTimer, Pulse.clockTimer_fires x hzero]
  case counts => rw [exec_pulseClockTimer, Pulse.clockTimer_counts x hpos]
  case quarter => cases x <;> exact ⟨_, exec_envelopeClock _ s, rfl⟩
  case half => cases x <;> exact ⟨_, _, exec_lengthClock _ s, exec_sweepClock _ _, rfl⟩

/-! ## The triangle (R236, R237, R239) -/

theorem Triangle.clockTimer_gated {t : Triangle} (h : t.timer.div.period.toNat < 2) : t.clockTimer = t := by
  rw [Triangle.clockTimer, minPeriod, Timer.clock_gated h]
  rfl

theorem Triangle.clockTimer_counts {t : Triangle} (hopen : 2 ≤ t.timer.div.period.toNat)
    (hpos : t.timer.div.counter ≠ 0) : t.clockTimer = { t with timer.div.counter := t.timer.div.counter - 1 } := by
  rw [Triangle.clockTimer, minPeriod, Timer.clock_counts hopen hpos]
  rfl

/-- The two counters gate the phase, not the timer. -/
theorem Triangle.clockTimer_fires {t : Triangle} (hopen : 2 ≤ t.timer.div.period.toNat)
    (hzero : t.timer.div.counter = 0) : t.clockTimer =
      { t with
        timer.div.counter := t.timer.div.period,
        phase := if t.lin ≠ 0 ∧ t.len.counter ≠ 0 then t.phase + 1 else t.phase } := by
  rw [Triangle.clockTimer, minPeriod, Timer.clock_fires hopen hzero]
  by_cases hrun : t.lin ≠ 0 ∧ t.len.counter ≠ 0
  · rw [if_pos ⟨rfl, hrun⟩, if_pos hrun, Triangle.advance]
  · rw [if_neg fun h => hrun h.2, if_neg hrun]

theorem exec_triangleClockTimer (s : State) :
    exec .triangleClockTimer s = .next { s with tri := s.tri.clockTimer } := rfl

/-- Settles O40: the timer's clock on the two sides of its gate; the quarter-frame clock is the linear counter's, and
the half-frame clock the length counter's. -/
theorem triangleClocks : Obligations.TriangleClocks := by
  intro s
  refine ⟨fun hgated => ?gated, fun hopen hpos => ?counts, fun hopen hzero => ?fires,
    ⟨_, exec_linearCounterClock s, rfl⟩, ⟨_, exec_lengthClock .tri s, rfl⟩⟩
  case gated => rw [exec_triangleClockTimer, Triangle.clockTimer_gated hgated]
  case counts => rw [exec_triangleClockTimer, Triangle.clockTimer_counts hopen hpos]
  case fires => rw [exec_triangleClockTimer, Triangle.clockTimer_fires hopen hzero]

/-! ## The noise and sample-playback channels (R241, R243, R244, R246, R247) -/

theorem Noise.clockTimer_fires {n : Noise} (h : n.timer.div.counter = 0) :
    n.clockTimer = ({ n with timer.div.counter := n.timer.div.period } : Noise).advance := by
  rw [Noise.clockTimer, minPeriod, Timer.clock_fires (Nat.zero_le _) h]
  rfl

theorem Noise.clockTimer_counts {n : Noise} (h : n.timer.div.counter ≠ 0) :
    n.clockTimer = { n with timer.div.counter := n.timer.div.counter - 1 } := by
  rw [Noise.clockTimer, minPeriod, Timer.clock_counts (Nat.zero_le _) h]
  rfl

theorem Dmc.clockTimer_fires {r : Latches} {m : List Host.Cell} {d : Dmc} (h : d.timer.div.counter = 0) :
    d.clockTimer r m = Dmc.outputClock r m { d with timer.div.counter := d.timer.div.period } := by
  rw [Dmc.clockTimer, minPeriod, Timer.clock_fires (Nat.zero_le _) h]
  rfl

theorem Dmc.clockTimer_counts {r : Latches} {m : List Host.Cell} {d : Dmc} (h : d.timer.div.counter ≠ 0) :
    d.clockTimer r m = ({ d with timer.div.counter := d.timer.div.counter - 1 }, none) := by
  rw [Dmc.clockTimer, minPeriod, Timer.clock_counts (Nat.zero_le _) h]
  rfl

theorem exec_noiseClockTimer (s : State) : exec .noiseClockTimer s = .next { s with noi := s.noi.clockTimer } := rfl

theorem exec_dmcClockTimer (s : State) : exec .dmcClockTimer s = .next (s.onDmc Dmc.clockTimer) := rfl

/-- Settles O41: a firing timer is reloaded before the generator's clock, and the control clocks are those of the
components that the channel has. -/
theorem noiseAndDmcClocks : Obligations.NoiseAndDmcClocks := by
  intro s
  refine ⟨fun hzero => ⟨_, exec_noiseWaveAdvance _, ?noiseFires⟩, fun hpos => ?noiseCounts,
    ⟨_, exec_envelopeClock .noi s, rfl⟩, ⟨_, exec_lengthClock .noi s, rfl⟩,
    fun hzero => ⟨_, exec_dmcOutputClock _, ?dmcFires⟩, fun hpos => ?dmcCounts, rfl, rfl⟩
  case noiseFires =>
    rw [exec_noiseClockTimer, Noise.clockTimer_fires hzero]
    rfl
  case noiseCounts => rw [exec_noiseClockTimer, Noise.clockTimer_counts hpos]
  case dmcFires => rw [exec_dmcClockTimer, State.onDmc, State.onDmc, Dmc.clockTimer_fires hzero]
  case dmcCounts => rw [exec_dmcClockTimer, State.onDmc_of_eq_none (Dmc.clockTimer_counts hpos)]

/-! ## The fan-out of the control clocks (R248, R249) -/

/-- A retune reads and writes nothing of the envelope (R182). -/
theorem Pulse.retune_setEnv (p : Pulse) (x : PulseId) (e : Envelope) :
    ({ p with env := e } : Pulse).retune x = { p.retune x with env := e } := by
  by_cases h : Retunes x p
  · rw [Pulse.retune_of_retunes h, Pulse.retune_of_retunes (p := { p with env := e }) h]
    rfl
  · rw [Pulse.retune_of_not_retunes h, Pulse.retune_of_not_retunes (p := { p with env := e }) h]

/-- The sweep clock reads and writes nothing of the envelope (R184). -/
theorem Pulse.sweepClock_setEnv (p : Pulse) (x : PulseId) (e : Envelope) :
    ({ p with env := e } : Pulse).sweepClock x = { p.sweepClock x with env := e } := by
  by_cases h : p.sweep.div.counter = 0
  · rw [Pulse.sweepClock_fires h, Pulse.sweepClock_fires (p := { p with env := e }) h, Pulse.retune_setEnv]
  · rw [Pulse.sweepClock_waits h, Pulse.sweepClock_waits (p := { p with env := e }) h]

/-- The quarter-frame clock moves the envelope alone; the half-frame clock moves the length counter, the sweep unit and
the timer, and reads none but these. -/
theorem Pulse.clockHalfFrame_clockQuarterFrame (p : Pulse) (x : PulseId) :
    p.clockQuarterFrame.clockHalfFrame x = (p.clockHalfFrame x).clockQuarterFrame := by
  have henv : (p.clockHalfFrame x).env = p.env := Pulse.sweepClock_env _ x
  rw [Pulse.clockQuarterFrame, Pulse.clockQuarterFrame, henv]
  exact Pulse.sweepClock_setEnv { p with len := p.len.clock } x p.env.clock

theorem Triangle.clockHalfFrame_clockQuarterFrame (t : Triangle) :
    t.clockQuarterFrame.clockHalfFrame = t.clockHalfFrame.clockQuarterFrame := by
  simp only [Triangle.clockQuarterFrame, Triangle.clockHalfFrame, Triangle.linearClock_eq]

theorem State.clockHalfFrameAll_clockQuarterFrameAll (s : State) :
    s.clockQuarterFrameAll.clockHalfFrameAll = s.clockHalfFrameAll.clockQuarterFrameAll := by
  simp only [State.clockQuarterFrameAll, State.clockHalfFrameAll, Pulse.clockHalfFrame_clockQuarterFrame,
    Triangle.clockHalfFrame_clockQuarterFrame]
  rfl

theorem exec_clockQuarterFrameAll (s : State) : exec .clockQuarterFrameAll s = .next s.clockQuarterFrameAll := rfl

theorem exec_clockHalfFrameAll (s : State) : exec .clockHalfFrameAll s = .next s.clockHalfFrameAll := rfl

/-- Settles O43: each channel's clock writes that channel alone, so the four in sequence are the one update; the two
fan-outs commute channel by channel. -/
theorem controlClockFanOut : Obligations.ControlClockFanOut := by
  intro s
  refine ⟨⟨_, _, _, _, rfl, rfl, rfl, rfl, exec_clockQuarterFrameAll s⟩,
    ⟨_, _, _, _, rfl, rfl, rfl, rfl, exec_clockHalfFrameAll s⟩,
    ⟨_, _, _, exec_clockQuarterFrameAll s, exec_clockHalfFrameAll _, exec_clockHalfFrameAll s, ?_⟩⟩
  rw [exec_clockQuarterFrameAll, State.clockHalfFrameAll_clockQuarterFrameAll]

end Sys2Proof.Machine

/-! # The register-write family: each register's effect on the named fields (R260 to R293), and the latches (R261) -/

namespace Sys2Proof.Machine

/-! ## What a write leaves in its channel, field by field -/

/-- R265: the high 3 bits are those of the live period. -/
theorem Pulse.writeR2_eq (p : Pulse) (b : Byte) :
    p.writeR2 b = { p with timer.div.period := p.timer.div.period.extractLsb' 8 3 ++ b } := by
  rw [Pulse.writeR2, Timer.setPeriodLow8_eq]

/-- R266: of the four effects only the length load depends on the counter being enabled. -/
theorem Pulse.writeR3_eq (p : Pulse) (b : Byte) : p.writeR3 b =
    { p with
      timer.div.period := b.extractLsb' 0 3 ++ p.timer.div.period.extractLsb' 0 8,
      timer.div.counter := b.extractLsb' 0 3 ++ p.timer.div.period.extractLsb' 0 8,
      len.counter := if p.len.enabled then lengthEntry (b.extractLsb' 3 5) else p.len.counter,
      env.restart := true,
      phase := 0 } := by
  rw [Pulse.writeR3, Timer.setPeriodHigh3_eq, LengthCounter.load_eq]
  rfl

/-- R283: the flag is cleared when the enable bit is 0, and kept when it is 1. -/
theorem Dmc.writeR0_eq (d : Dmc) (b : Byte) : d.writeR0 b =
    { d with
      irqEnable := b.getLsbD 7,
      irqFlag := if b.getLsbD 7 then d.irqFlag else false,
      loop := b.getLsbD 6,
      rateIndex := b.extractLsb' 0 4,
      timer.div.period := dmcDividerPeriod (b.extractLsb' 0 4) } := by
  unfold Dmc.writeR0 Field.dmcIrqEnable
  cases b.getLsbD 7 <;> rfl

/-- R304: the sequencer's own part of a mode write, which restarts the sequence. -/
theorem FrameSequencer.writeMode_eq (f : FrameSequencer) (m inh : Bool) : f.writeMode m inh =
    { f with
      mode := if m then .fiveStep else .fourStep,
      irqInhibit := inh,
      irqFlag := if inh then false else f.irqFlag,
      step := 0,
      div.counter := f.div.period } := by
  cases inh <;> rfl

/-- R35, R118: no start address of a sample exceeds 16 bits. -/
theorem sampleAddress_toNat (r : Latches) : (sampleAddress r).toNat = 0xC000 + 64 * r.r2.toNat := by
  have hbyte := r.r2.isLt
  rw [sampleAddress, BitVec.toNat_ofNat, Nat.mod_eq_of_lt (by omega)]

/-- R35, R119: no length of a sample exceeds 12 bits. -/
theorem sampleLength_toNat (r : Latches) : (sampleLength r).toNat = 16 * r.r3.toNat + 1 := by
  have hbyte := r.r3.isLt
  rw [sampleLength, BitVec.toNat_ofNat, Nat.mod_eq_of_lt (by omega)]

/-! ## The writes as operations of their channel -/

section
variable (b : Byte) (s : State)

theorem exec_wP1R2 : exec (.wP1R2 b) s = .next { s with reg.p1.r2 := b, p1 := s.p1.writeR2 b } := rfl
theorem exec_wP2R2 : exec (.wP2R2 b) s = .next { s with reg.p2.r2 := b, p2 := s.p2.writeR2 b } := rfl
theorem exec_wTriR2 : exec (.wTriR2 b) s =
    .next { s with reg.tri.r2 := b, tri.timer := s.tri.timer.setPeriodLow8 b } := rfl

theorem exec_wP1R3 : exec (.wP1R3 b) s = .next { s with reg.p1.r3 := b, p1 := s.p1.writeR3 b } := rfl
theorem exec_wP2R3 : exec (.wP2R3 b) s = .next { s with reg.p2.r3 := b, p2 := s.p2.writeR3 b } := rfl
theorem exec_wTriR3 : exec (.wTriR3 b) s = .next { s with
    reg.tri.r3 := b, tri.timer := s.tri.timer.setPeriodHigh3 (b.extractLsb' 0 3),
    tri.len := s.tri.len.load (b.extractLsb' 3 5), tri.reloadFlag := true } := rfl

theorem exec_wNoiR3 : exec (.wNoiR3 b) s = .next { s with
    reg.noi.r3 := b, noi.len := s.noi.len.load (b.extractLsb' 3 5), noi.env.restart := true } := rfl

theorem exec_wDmcR0 : exec (.wDmcR0 b) s = .next { s with reg.dmc.r0 := b, dmc := s.dmc.writeR0 b } := rfl

theorem exec_wEnable :
    exec (.wEnable b) s = .next ((s.writeLengthEnables b).onDmc (Dmc.writeEnable (b.getLsbD 4))) := rfl

end

theorem exec_fsWriteMode (m inh : Bool) (s : State) : exec (.fsWriteMode m inh) s = .next (s.writeMode m inh) := rfl

/-- A FRAME write is a mode write on its two bits (R292). -/
theorem exec_wFrame (b : Byte) (s : State) :
    exec (.wFrame b) s = exec (.fsWriteMode (b.getLsbD 7) (b.getLsbD 6)) s := rfl

/-! ## The channels' registers -/

/-- Settles O10: the setters of the two registers, each the write of its field. -/
theorem pulseControlWrites : Obligations.PulseControlWrites := fun _ _ =>
  ⟨decodeWord_of_encodeWord rfl, decodeWord_of_encodeWord rfl, rfl, rfl,
    decodeWord_of_encodeWord rfl, decodeWord_of_encodeWord rfl, rfl, rfl⟩

/-- Settles O11: the masked period is the concatenation of the bits kept and the byte. -/
theorem periodLowWrites : Obligations.PeriodLowWrites := by
  intro b s
  refine ⟨decodeWord_of_encodeWord rfl, decodeWord_of_encodeWord rfl, decodeWord_of_encodeWord rfl, ?p1, ?p2, ?tri⟩
  case p1 => rw [exec_wP1R2, Pulse.writeR2_eq]
  case p2 => rw [exec_wP2R2, Pulse.writeR2_eq]
  case tri => rw [exec_wTriR2, Timer.setPeriodLow8_eq]

/-- Settles O12: one equation for the register, on either pulse channel. -/
theorem pulseRegister3Writes : Obligations.PulseRegister3Writes := by
  intro b s
  refine ⟨decodeWord_of_encodeWord rfl, decodeWord_of_encodeWord rfl, ?p1, ?p2⟩
  case p1 => rw [exec_wP1R3, Pulse.writeR3_eq]
  case p2 => rw [exec_wP2R3, Pulse.writeR3_eq]

/-- Settles O13: registers 0 and 1 are their definitions; register 3 assembles the period and loads the length. -/
theorem triangleWrites : Obligations.TriangleWrites := by
  intro b s
  refine ⟨decodeWord_of_encodeWord rfl, decodeWord_of_encodeWord rfl, decodeWord_of_encodeWord rfl, rfl, rfl, ?_⟩
  rw [exec_wTriR3, Timer.setPeriodHigh3_eq, LengthCounter.load_eq]

/-- Settles O14: registers 0 to 2 are their definitions; register 3 loads the length. -/
theorem noiseWrites : Obligations.NoiseWrites := by
  intro b s
  refine ⟨decodeWord_of_encodeWord rfl, decodeWord_of_encodeWord rfl, decodeWord_of_encodeWord rfl,
    decodeWord_of_encodeWord rfl, rfl, rfl, rfl, ?_⟩
  rw [exec_wNoiR3, LengthCounter.load_eq]

/-- Settles O15: register 0 on the two values of its enable bit; the other registers are their definitions, and the
two derived values need no reduction. -/
theorem dmcWrites : Obligations.DmcWrites := by
  intro b s
  refine ⟨decodeWord_of_encodeWord rfl, decodeWord_of_encodeWord rfl, decodeWord_of_encodeWord rfl,
    decodeWord_of_encodeWord rfl, ?_, rfl, rfl, rfl, fun r => ⟨sampleAddress_toNat r, sampleLength_toNat r⟩⟩
  rw [exec_wDmcR0, Dmc.writeR0_eq]

/-! ## The reserved ids and the control registers -/

/-- Settles O16. -/
theorem reservedWrites : Obligations.ReservedWrites := by
  intro low b s
  rw [reservedId_eq_add]
  exact ⟨decodeWord_of_encodeWord rfl, decodeWord_of_encodeWord rfl, decodeWord_packWord_reserved low b, rfl, rfl, rfl⟩

/-- The four enables and the cleared flag, before the sample is looked at (R290). -/
theorem enablesWritten_eq (b : Byte) (s : State) :
    enablesWritten b s = { s.writeLengthEnables b with dmc := s.dmc.clearIrq } := by
  simp only [State.writeLengthEnables, LengthCounter.setEnabled_eq]
  rfl

/-- With bit 4 clear no address is presented. -/
theorem exec_wEnable_of_not_dmc {b : Byte} {s : State} (h : b.getLsbD 4 = false) : exec (.wEnable b) s =
    .next { s.writeLengthEnables b with dmc := { s.dmc.clearIrq with remaining := 0 } } := by
  have hdropped : Dmc.writeEnable false s.reg.dmc s.mem s.dmc = ({ s.dmc.clearIrq with remaining := 0 }, none) := rfl
  rw [exec_wEnable, h, State.onDmc_of_eq_none (s := s.writeLengthEnables b) hdropped]

/-- With bit 4 set a finished sample is restarted before the memory reader runs, one in progress is not. -/
theorem exec_wEnable_of_dmc {b : Byte} {s : State} (h : b.getLsbD 4 = true) : exec (.wEnable b) s =
    .next (({ s.writeLengthEnables b with
      dmc := if s.dmc.remaining = 0 then s.dmc.clearIrq.restartSample s.reg.dmc else s.dmc.clearIrq } : State).onDmc
        Dmc.fill) := by
  rw [exec_wEnable, h]
  rfl

/-- Settles O17: the five writes before the sample are common to both values of bit 4, which then drops the sample or
runs the memory reader. -/
theorem enableWrites : Obligations.EnableWrites := by
  intro b s
  refine ⟨decodeWord_of_encodeWord rfl, fun hoff => ?off, fun hon => ⟨_, exec_dmcFill _, ?on⟩⟩
  case off => rw [exec_wEnable_of_not_dmc hoff, enablesWritten_eq]
  case on =>
    rw [exec_wEnable_of_dmc hon, enablesWritten_eq]
    split <;> rfl

theorem State.writeMode_eq (m inh : Bool) (s : State) : s.writeMode m inh =
    if m then (modeWritten m inh s).clockQuarterFrameAll.clockHalfFrameAll else modeWritten m inh s := by
  rw [State.writeMode, FrameSequencer.writeMode_eq]
  rfl

/-- Settles O18: the mode write with and without the two clocks that the mode bit fires. -/
theorem frameWrites : Obligations.FrameWrites := by
  refine ⟨fun m inh s => ⟨fun hfour => ?four, fun hfive => ⟨_, _, exec_clockQuarterFrameAll _,
    exec_clockHalfFrameAll _, ?five⟩⟩,
    fun b s => ⟨decodeWord_of_encodeWord rfl, _, exec_fsWriteMode _ _ s, exec_wFrame b s⟩⟩
  case four => rw [exec_fsWriteMode, State.writeMode_eq, hfour, if_neg Bool.false_ne_true]
  case five => rw [exec_fsWriteMode, State.writeMode_eq, hfive, if_pos rfl]

end Sys2Proof.Machine

/-! # The decoded fields (R261): what of each channel the latches determine -/

namespace Sys2Proof.Machine

/-! ## The decoded fields of a channel, and what its latches make of them -/

/-- The fields that registers 0 and 1 of a pulse channel determine. -/
@[ext] structure PulseFields where
  duty : BitVec 2
  halt : Bool
  loop : Bool
  mode : Bool
  level : BitVec 4
  rate : BitVec 4
  sweepEnabled : Bool
  sweepPeriod : BitVec 3
  negate : Bool
  shift : BitVec 3

/-- The fields that the triangle's registers determine, its whole period among them: no sweep unit moves it. -/
@[ext] structure TriangleFields where
  control : Bool
  halt : Bool
  reload : BitVec 7
  period : BitVec 11

/-- The fields that registers 0 and 2 of the noise channel determine. -/
@[ext] structure NoiseFields where
  halt : Bool
  loop : Bool
  mode : Bool
  level : BitVec 4
  rate : BitVec 4
  shiftMode : Bool
  index : BitVec 4
  period : BitVec 11

/-- The fields that register 0 of the sample-playback channel determines. -/
@[ext] structure DmcFields where
  irqEnable : Bool
  loop : Bool
  rate : BitVec 4
  period : BitVec 8

/-- The decoded fields as the channel holds them. -/
def Pulse.fields (p : Pulse) : PulseFields :=
  ⟨p.duty, p.len.halt, p.env.loop, p.env.constantMode, p.env.constantLevel, p.env.div.period,
    p.sweep.enabled, p.sweep.div.period, p.sweep.negate, p.sweep.shift⟩

/-- The same fields as the bits of the channel's latches (R104, R105). -/
def Latches.pulseFields (r : Latches) : PulseFields :=
  ⟨Field.duty r.r0, Field.halt r.r0, Field.halt r.r0, Field.constantMode r.r0, Field.volume r.r0, Field.volume r.r0,
    Field.sweepEnabled r.r1, Field.sweepPeriod r.r1, Field.sweepNegate r.r1, Field.sweepShift r.r1⟩

/-- The decoded fields as the channel holds them. -/
def Triangle.fields (t : Triangle) : TriangleFields := ⟨t.control, t.len.halt, t.reloadValue, t.timer.div.period⟩

/-- The same fields as the bits of the channel's latches (R108, R110, R111). -/
def Latches.triangleFields (r : Latches) : TriangleFields :=
  ⟨Field.triControl r.r0, Field.triControl r.r0, Field.triReload r.r0, Field.timerHigh r.r3 ++ r.r2⟩

/-- The decoded fields as the channel holds them. -/
def Noise.fields (n : Noise) : NoiseFields :=
  ⟨n.len.halt, n.env.loop, n.env.constantMode, n.env.constantLevel, n.env.div.period, n.mode, n.periodIndex,
    n.timer.div.period⟩

/-- The same fields as the bits of the channel's latches (R112, R114). -/
def Latches.noiseFields (r : Latches) : NoiseFields :=
  ⟨Field.halt r.r0, Field.halt r.r0, Field.constantMode r.r0, Field.volume r.r0, Field.volume r.r0,
    Field.noiseMode r.r2, Field.noiseIndex r.r2, noiseDividerPeriod (Field.noiseIndex r.r2)⟩

/-- The decoded fields as the channel holds them. -/
def Dmc.fields (d : Dmc) : DmcFields := ⟨d.irqEnable, d.loop, d.rateIndex, d.timer.div.period⟩

/-- The same fields as the bits of the channel's latches (R116). -/
def Latches.dmcFields (r : Latches) : DmcFields :=
  ⟨Field.dmcIrqEnable r.r0, Field.dmcLoop r.r0, Field.dmcRate r.r0, dmcDividerPeriod (Field.dmcRate r.r0)⟩

/-! ## The decoded fields of the machine -/

/-- All the fields R261 speaks of. -/
@[ext] structure DecodedFields where
  p1 : PulseFields
  p2 : PulseFields
  tri : TriangleFields
  noi : NoiseFields
  dmc : DmcFields

/-- The decoded fields as the machine holds them. -/
def State.fields (s : State) : DecodedFields := ⟨s.p1.fields, s.p2.fields, s.tri.fields, s.noi.fields, s.dmc.fields⟩

/-- The same fields as the bits of the 20 latches. -/
def RegFile.fields (r : RegFile) : DecodedFields :=
  ⟨r.p1.pulseFields, r.p2.pulseFields, r.tri.triangleFields, r.noi.noiseFields, r.dmc.dmcFields⟩

/-- The invariant of R261 is one equation. -/
theorem fieldsFollowLatches_iff (s : State) : FieldsFollowLatches s ↔ s.fields = s.reg.fields where
  mp h := DecodedFields.ext
    (PulseFields.ext h.p1Duty h.p1Halt h.p1Loop h.p1Mode h.p1Level h.p1Rate h.p1Enabled h.p1Sweep h.p1Negate h.p1Shift)
    (PulseFields.ext h.p2Duty h.p2Halt h.p2Loop h.p2Mode h.p2Level h.p2Rate h.p2Enabled h.p2Sweep h.p2Negate h.p2Shift)
    (TriangleFields.ext h.triControl h.triHalt h.triReload h.triPeriod)
    (NoiseFields.ext h.noiHalt h.noiLoop h.noiMode h.noiLevel h.noiRate h.noiShiftMode h.noiIndex h.noiPeriod)
    (DmcFields.ext h.dmcIrqEnable h.dmcLoop h.dmcRate h.dmcPeriod)
  mpr h := by
    simp only [State.fields, RegFile.fields, DecodedFields.mk.injEq, Pulse.fields, Latches.pulseFields,
      PulseFields.mk.injEq, Triangle.fields, Latches.triangleFields, TriangleFields.mk.injEq, Noise.fields,
      Latches.noiseFields, NoiseFields.mk.injEq, Dmc.fields, Latches.dmcFields, DmcFields.mk.injEq] at h
    constructor <;> simp only [h]

/-! ## No clock moves a decoded field -/

@[simp] theorem Pulse.clockTimer_fields (p : Pulse) (x : PulseId) : (p.clockTimer x).fields = p.fields := by
  by_cases h : p.timer.div.counter = 0
  · rw [Pulse.clockTimer_fires x h, Pulse.fields, Pulse.fields]
  · rw [Pulse.clockTimer_counts x h, Pulse.fields, Pulse.fields]

@[simp] theorem Pulse.clockQuarterFrame_fields (p : Pulse) : p.clockQuarterFrame.fields = p.fields := by
  simp [Pulse.fields, Pulse.clockQuarterFrame]

/-- The retune moves the timer's period alone, which R261 excepts. -/
@[simp] theorem Pulse.sweepClock_fields (p : Pulse) (x : PulseId) : (p.sweepClock x).fields = p.fields := by
  by_cases h : p.sweep.div.counter = 0
  · simp [Pulse.fields, Pulse.sweepClock_fires h]
  · simp [Pulse.fields, Pulse.sweepClock_waits h]

@[simp] theorem Pulse.clockHalfFrame_fields (p : Pulse) (x : PulseId) : (p.clockHalfFrame x).fields = p.fields := by
  rw [Pulse.clockHalfFrame, Pulse.sweepClock_fields]
  simp [Pulse.fields]

@[simp] theorem Triangle.clockTimer_fields (t : Triangle) : t.clockTimer.fields = t.fields := by
  rw [Triangle.clockTimer]
  split <;> simp [Triangle.fields, Triangle.advance]

@[simp] theorem Triangle.clockQuarterFrame_fields (t : Triangle) : t.clockQuarterFrame.fields = t.fields := by
  simp [Triangle.fields, Triangle.clockQuarterFrame, Triangle.linearClock_eq]

@[simp] theorem Triangle.clockHalfFrame_fields (t : Triangle) : t.clockHalfFrame.fields = t.fields := by
  simp [Triangle.fields, Triangle.clockHalfFrame]

@[simp] theorem Noise.clockTimer_fields (n : Noise) : n.clockTimer.fields = n.fields := by
  by_cases h : n.timer.div.counter = 0
  · rw [Noise.clockTimer_fires h]
    rfl
  · rw [Noise.clockTimer_counts h]
    rfl

@[simp] theorem Noise.clockQuarterFrame_fields (n : Noise) : n.clockQuarterFrame.fields = n.fields := by
  simp [Noise.fields, Noise.clockQuarterFrame]

@[simp] theorem Noise.clockHalfFrame_fields (n : Noise) : n.clockHalfFrame.fields = n.fields := by
  simp [Noise.fields, Noise.clockHalfFrame]

theorem Dmc.endSample_fields (r : Latches) (d : Dmc) : (d.endSample r).fields = d.fields := by
  cases hloop : d.loop with
  | true =>
    rw [Dmc.endSample_of_loop hloop]
    rfl
  | false =>
    rw [Dmc.endSample_of_not_loop hloop]
    rfl

theorem Dmc.fill_fields (r : Latches) (m : List Host.Cell) (d : Dmc) : (d.fill r m).1.fields = d.fields := by
  rw [Dmc.fill]
  split
  · dsimp only
    split
    · exact (d.fetchByte m).endSample_fields r
    · rfl
  · rfl

theorem Dmc.startOutputCycle_fields (r : Latches) (m : List Host.Cell) (d : Dmc) :
    (d.startOutputCycle r m).1.fields = d.fields := by
  rw [Dmc.startOutputCycle]
  split
  · exact Dmc.fill_fields r m _
  · rfl

theorem Dmc.shiftOut_fields (d : Dmc) : d.shiftOut.fields = d.fields := by
  rw [Dmc.shiftOut_frame]
  rfl

theorem Dmc.outputClock_fields (r : Latches) (m : List Host.Cell) (d : Dmc) :
    (d.outputClock r m).1.fields = d.fields := by
  rw [Dmc.outputClock]
  split
  · rw [Dmc.startOutputCycle_fields, Dmc.shiftOut_fields]
  · exact d.shiftOut_fields

@[simp] theorem Dmc.clockTimer_fields (r : Latches) (m : List Host.Cell) (d : Dmc) :
    (d.clockTimer r m).1.fields = d.fields := by
  by_cases h : d.timer.div.counter = 0
  · rw [Dmc.clockTimer_fires h, Dmc.outputClock_fields]
    rfl
  · rw [Dmc.clockTimer_counts h]
    rfl

@[simp] theorem State.clockQuarterFrameAll_fields (s : State) : s.clockQuarterFrameAll.fields = s.fields := by
  simp [State.fields, State.clockQuarterFrameAll]

@[simp] theorem State.clockHalfFrameAll_fields (s : State) : s.clockHalfFrameAll.fields = s.fields := by
  simp [State.fields, State.clockHalfFrameAll]

/-- Where the model chooses between two states, it is enough that both have the fields. -/
theorem State.ite_fields {c : Prop} [Decidable c] {s t : State} {f : DecodedFields} (hs : s.fields = f)
    (ht : t.fields = f) : (if c then s else t).fields = f := by
  split
  · exact hs
  · exact ht

theorem State.doPosition_fields (s : State) (q h i : Bool) : (s.doPosition q h i).fields = s.fields := by
  have hquarter := State.ite_fields (c := q) s.clockQuarterFrameAll_fields rfl
  have hhalf := State.ite_fields (c := h) ((State.clockHalfFrameAll_fields _).trans hquarter) hquarter
  exact State.ite_fields hhalf hhalf

theorem State.fsClock_fields (s : State) : s.fsClock.fields = s.fields :=
  State.ite_fields (State.doPosition_fields { s with fs.div := s.fs.div.clock.1 } _ _ _) rfl

/-- A mode write touches the sequencer, and fires the two control clocks or none (R304). -/
theorem State.writeMode_fields (s : State) (m inh : Bool) : (s.writeMode m inh).fields = s.fields := by
  rw [State.writeMode_eq]
  refine State.ite_fields ?_ rfl
  rw [State.clockHalfFrameAll_fields, State.clockQuarterFrameAll_fields]
  rfl

theorem State.clockHalfRateTimers_fields (s : State) : s.clockHalfRateTimers.fields = s.fields := by
  simp [State.fields, State.clockHalfRateTimers]

theorem State.clockTimers_fields (s : State) : s.clockTimers.fields = s.fields := by
  have htri : ({ s with tri := s.tri.clockTimer } : State).fields = s.fields := by simp [State.fields]
  have hparity (t : State) : ({ t with phase2 := !t.phase2 } : State).fields = t.fields := rfl
  rw [State.clockTimers, hparity]
  split
  · exact htri
  · rw [State.clockHalfRateTimers_fields, htri]

theorem State.cycle_fields (s : State) : s.cycle.fields = s.fields := by
  have haccumulate : s.cycle.fields = s.fsClock.clockTimers.fields := rfl
  rw [haccumulate, State.clockTimers_fields, State.fsClock_fields]

theorem State.cycle_reg (s : State) : s.cycle.reg = s.reg := by simp [State.cycle]

/-- The mixer and the FIFO hold no decoded field. -/
theorem State.resample_fields (s : State) : s.resample.fields = s.fields := by
  rw [State.resample_frame, State.fields, State.fields]

theorem State.resample_reg (s : State) : s.resample.reg = s.reg := by rw [State.resample_frame]

/-! ## A write moves a latch and the fields decoded from it together -/

section
variable {p : Pulse} {t : Triangle} {n : Noise} {r : Latches} (b : Byte)

theorem Pulse.writeR0_fields (h : p.fields = r.pulseFields) :
    (p.writeR0 b).fields = ({ r with r0 := b } : Latches).pulseFields :=
  congrArg (fun f : PulseFields => { f with
    duty := Field.duty b, halt := Field.halt b, loop := Field.halt b, mode := Field.constantMode b,
    level := Field.volume b, rate := Field.volume b }) h

theorem Pulse.writeR1_fields (h : p.fields = r.pulseFields) :
    (p.writeR1 b).fields = ({ r with r1 := b } : Latches).pulseFields :=
  congrArg (fun f : PulseFields => { f with
    sweepEnabled := Field.sweepEnabled b, sweepPeriod := Field.sweepPeriod b, negate := Field.sweepNegate b,
    shift := Field.sweepShift b }) h

/-- The timer's period is excepted, so the latch moves alone. -/
theorem Pulse.writeR2_fields (h : p.fields = r.pulseFields) :
    (p.writeR2 b).fields = ({ r with r2 := b } : Latches).pulseFields := h

theorem Pulse.writeR3_fields (h : p.fields = r.pulseFields) :
    (p.writeR3 b).fields = ({ r with r3 := b } : Latches).pulseFields := by
  rw [Pulse.writeR3_eq]
  exact h

theorem Triangle.writeR0_fields (h : t.fields = r.triangleFields) :
    ({ t with
      control := Field.triControl b, len := t.len.setHalt (Field.triControl b),
      reloadValue := Field.triReload b } : Triangle).fields = ({ r with r0 := b } : Latches).triangleFields :=
  congrArg (fun f : TriangleFields => { f with
    control := Field.triControl b, halt := Field.triControl b, reload := Field.triReload b }) h

/-- The high 3 bits kept are those of register 3, as no sweep unit moves the triangle's period. -/
theorem Triangle.writeR2_fields (h : t.fields = r.triangleFields) :
    ({ t with timer := t.timer.setPeriodLow8 b } : Triangle).fields =
      ({ r with r2 := b } : Latches).triangleFields := by
  have hperiod : t.timer.div.period = Field.timerHigh r.r3 ++ r.r2 := congrArg TriangleFields.period h
  have hhigh : t.timer.div.period.extractLsb' 8 3 = Field.timerHigh r.r3 := by
    rw [hperiod]
    exact BitVec.extractLsb'_append_eq_left
  rw [Timer.setPeriodLow8_eq, hhigh]
  exact congrArg (fun f : TriangleFields => { f with period := Field.timerHigh r.r3 ++ b }) h

/-- The low 8 bits kept are those of register 2. -/
theorem Triangle.writeR3_fields (h : t.fields = r.triangleFields) :
    ({ t with
      timer := t.timer.setPeriodHigh3 (Field.timerHigh b), len := t.len.load (Field.lengthIndex b) }
        : Triangle).armReload.fields = ({ r with r3 := b } : Latches).triangleFields := by
  have hperiod : t.timer.div.period = Field.timerHigh r.r3 ++ r.r2 := congrArg TriangleFields.period h
  have hlow : t.timer.div.period.extractLsb' 0 8 = r.r2 := by
    rw [hperiod]
    exact BitVec.extractLsb'_append_eq_right
  rw [Timer.setPeriodHigh3_eq, hlow, LengthCounter.load_eq]
  exact congrArg (fun f : TriangleFields => { f with period := Field.timerHigh b ++ r.r2 }) h

theorem Noise.writeR0_fields (h : n.fields = r.noiseFields) :
    ({ n with len := n.len.setHalt (Field.halt b), env := n.env.writeControl b } : Noise).fields =
      ({ r with r0 := b } : Latches).noiseFields :=
  congrArg (fun f : NoiseFields => { f with
    halt := Field.halt b, loop := Field.halt b, mode := Field.constantMode b, level := Field.volume b,
    rate := Field.volume b }) h

theorem Noise.writeR2_fields (h : n.fields = r.noiseFields) :
    ({ n with
      mode := Field.noiseMode b, periodIndex := Field.noiseIndex b,
      timer := n.timer.setPeriod (noiseDividerPeriod (Field.noiseIndex b)) } : Noise).fields =
      ({ r with r2 := b } : Latches).noiseFields :=
  congrArg (fun f : NoiseFields => { f with
    shiftMode := Field.noiseMode b, index := Field.noiseIndex b,
    period := noiseDividerPeriod (Field.noiseIndex b) }) h

theorem Noise.writeR3_fields (h : n.fields = r.noiseFields) :
    ({ n with len := n.len.load (Field.lengthIndex b), env := n.env.armRestart } : Noise).fields =
      ({ r with r3 := b } : Latches).noiseFields := by
  rw [LengthCounter.load_eq]
  exact h

/-- Register 0 determines every decoded field of the channel. -/
theorem Dmc.writeR0_fields (d : Dmc) (r : Latches) :
    (d.writeR0 b).fields = ({ r with r0 := b } : Latches).dmcFields := by
  rw [Dmc.writeR0_eq]
  rfl

end

theorem Pulse.setEnabled_fields (p : Pulse) (e : Bool) :
    ({ p with len := p.len.setEnabled e } : Pulse).fields = p.fields := by
  rw [LengthCounter.setEnabled_eq]
  rfl

theorem Triangle.setEnabled_fields (t : Triangle) (e : Bool) :
    ({ t with len := t.len.setEnabled e } : Triangle).fields = t.fields := by
  rw [LengthCounter.setEnabled_eq]
  rfl

theorem Noise.setEnabled_fields (n : Noise) (e : Bool) :
    ({ n with len := n.len.setEnabled e } : Noise).fields = n.fields := by
  rw [LengthCounter.setEnabled_eq]
  rfl

theorem Dmc.writeEnable_fields (on : Bool) (r : Latches) (m : List Host.Cell) (d : Dmc) :
    (d.writeEnable on r m).1.fields = d.fields := by
  cases on with
  | false => rfl
  | true =>
    rw [Dmc.writeEnable, if_pos rfl, Dmc.fill_fields]
    split <;> rfl

/-! ## Every event -/

/-- The equation of R261 channel by channel. -/
theorem fieldsFollowLatches_iff_channels (s : State) : FieldsFollowLatches s ↔
    s.p1.fields = s.reg.p1.pulseFields ∧ s.p2.fields = s.reg.p2.pulseFields ∧
      s.tri.fields = s.reg.tri.triangleFields ∧ s.noi.fields = s.reg.noi.noiseFields ∧
      s.dmc.fields = s.reg.dmc.dmcFields :=
  (fieldsFollowLatches_iff s).trans DecodedFields.ext_iff

theorem FieldsFollowLatches.of_eq {s t : State} (h : FieldsFollowLatches s) (hfields : t.fields = s.fields)
    (hreg : t.reg = s.reg) : FieldsFollowLatches t := by
  rw [fieldsFollowLatches_iff, hfields, hreg, ← fieldsFollowLatches_iff]
  exact h

/-- A register write moves one latch and its own channel, a write to a control register no latch.  The alternatives of
`decodeWord` are in the order of the ids, from `h_1` for id 0x00. -/
theorem FieldsFollowLatches.write {w : WriteWord} {s t : State} (h : FieldsFollowLatches s)
    (ht : exec (decodeWord w) s = .next t) : FieldsFollowLatches t := by
  obtain ⟨h1, h2, htri, hnoi, hdmc⟩ := (fieldsFollowLatches_iff_channels s).mp h
  unfold decodeWord at ht
  split at ht <;> cases ht
  case h_24 => exact h.of_eq (s.writeMode_fields _ _) (s.writeMode_reg _ _)
  all_goals rw [fieldsFollowLatches_iff_channels]
  case h_1 => exact ⟨Pulse.writeR0_fields _ h1, h2, htri, hnoi, hdmc⟩
  case h_2 => exact ⟨Pulse.writeR1_fields _ h1, h2, htri, hnoi, hdmc⟩
  case h_3 => exact ⟨Pulse.writeR2_fields _ h1, h2, htri, hnoi, hdmc⟩
  case h_4 => exact ⟨Pulse.writeR3_fields _ h1, h2, htri, hnoi, hdmc⟩
  case h_5 => exact ⟨h1, Pulse.writeR0_fields _ h2, htri, hnoi, hdmc⟩
  case h_6 => exact ⟨h1, Pulse.writeR1_fields _ h2, htri, hnoi, hdmc⟩
  case h_7 => exact ⟨h1, Pulse.writeR2_fields _ h2, htri, hnoi, hdmc⟩
  case h_8 => exact ⟨h1, Pulse.writeR3_fields _ h2, htri, hnoi, hdmc⟩
  case h_9 => exact ⟨h1, h2, Triangle.writeR0_fields _ htri, hnoi, hdmc⟩
  case h_11 => exact ⟨h1, h2, Triangle.writeR2_fields _ htri, hnoi, hdmc⟩
  case h_12 => exact ⟨h1, h2, Triangle.writeR3_fields _ htri, hnoi, hdmc⟩
  case h_13 => exact ⟨h1, h2, htri, Noise.writeR0_fields _ hnoi, hdmc⟩
  case h_15 => exact ⟨h1, h2, htri, Noise.writeR2_fields _ hnoi, hdmc⟩
  case h_16 => exact ⟨h1, h2, htri, Noise.writeR3_fields _ hnoi, hdmc⟩
  case h_17 => exact ⟨h1, h2, htri, hnoi, Dmc.writeR0_fields _ _ _⟩
  case h_22 =>
    exact ⟨(Pulse.setEnabled_fields _ _).trans h1, (Pulse.setEnabled_fields _ _).trans h2,
      (Triangle.setEnabled_fields _ _).trans htri, (Noise.setEnabled_fields _ _).trans hnoi,
      (Dmc.writeEnable_fields _ _ _ _).trans hdmc⟩
  all_goals exact ⟨h1, h2, htri, hnoi, hdmc⟩

theorem fieldsFollowLatches_reset : FieldsFollowLatches State.reset := (fieldsFollowLatches_iff _).mpr rfl

theorem FieldsFollowLatches.event {e : Event} {s t : State} (h : FieldsFollowLatches s)
    (ht : exec (decodeEvent e) s = .next t) : FieldsFollowLatches t := by
  cases e with
  | write w => exact h.write ht
  | step =>
    obtain rfl := Host.Outcome.next.inj ((exec_step s).symm.trans ht)
    exact h.of_eq (s.cycle.resample_fields.trans s.cycle_fields) (s.cycle.resample_reg.trans s.cycle_reg)
  | reset =>
    cases ht
    exact fieldsFollowLatches_reset.of_eq rfl rfl
  | pull | seek =>
    cases ht
    exact h.of_eq rfl rfl

/-- Settles O60: by cases of the event taken.  Only a register write moves a latch or a decoded field, and it moves
them together. -/
theorem latchesStayInAgreement : Obligations.LatchesStayInAgreement := by
  intro s t h hstep
  obtain ⟨-, ht⟩ | ⟨e, rest, -, ht⟩ := step_cases hstep
  · exact Host.Outcome.next.inj ht ▸ h
  · have hrest : FieldsFollowLatches { s with pending := rest } := h.of_eq rfl rfl
    exact hrest.event ht.symm

end Sys2Proof.Machine

/-! # The sequencer family: the operations of the frame sequencer and its timing (R301 to R305) -/

namespace Sys2Proof.Machine

/-! ## A position of the sequence (R302, R303) -/

theorem exec_fsDoPosition (q h i : Bool) (s : State) : exec (.fsDoPosition q h i) s = .next (s.doPosition q h i) := rfl

theorem exec_fsClock (s : State) : exec .fsClock s = .next s.fsClock := rfl

/-- A position without its interrupt effect is the quarter-frame clock and then the half-frame clock. -/
theorem exec_clockHalfFrameAll_doPosition (s : State) (q h : Bool) :
    if h then exec .clockHalfFrameAll (s.doPosition q false false) = .next (s.doPosition q h false)
    else s.doPosition q h false = s.doPosition q false false := by
  cases h <;> rfl

theorem exec_clockQuarterFrameAll_doPosition (s : State) (q : Bool) :
    if q then exec .clockQuarterFrameAll s = .next (s.doPosition q false false)
    else s.doPosition q false false = s := by
  cases q <;> rfl

/-- The interrupt effect comes last and is the flag's alone (R302). -/
theorem State.doPosition_eq (s : State) (q h i : Bool) : s.doPosition q h i =
    { s.doPosition q h false with fs.irqFlag := s.fs.irqFlag || (i && !s.fs.irqInhibit) } := by
  have hsplit : s.doPosition q h i = if i ∧ s.fs.irqInhibit = false then
      { s.doPosition q h false with fs := (s.doPosition q h false).fs.raiseIrq } else s.doPosition q h false := by
    cases q <;> cases h <;> rfl
  have hfs : (s.doPosition q h i).fs =
      { (s.doPosition q h false).fs with irqFlag := s.fs.irqFlag || (i && !s.fs.irqInhibit) } := by
    rw [State.doPosition_fs, State.doPosition_fs]
    cases i && !s.fs.irqInhibit <;> simp [FrameSequencer.raiseIrq]
  have hframe : s.doPosition q h i = { s.doPosition q h false with fs := (s.doPosition q h i).fs } := by
    rw [hsplit]
    split <;> rfl
  rw [hframe, hfs]

@[simp] theorem State.doPosition_step (s : State) (q h i : Bool) : (s.doPosition q h i).fs.step = s.fs.step := by
  rw [State.doPosition_fs]; split <;> rfl
@[simp] theorem State.doPosition_mode (s : State) (q h i : Bool) : (s.doPosition q h i).fs.mode = s.fs.mode := by
  rw [State.doPosition_fs]; split <;> rfl
@[simp] theorem State.doPosition_div (s : State) (q h i : Bool) : (s.doPosition q h i).fs.div = s.fs.div := by
  rw [State.doPosition_fs]; split <;> rfl
@[simp] theorem State.doPosition_irqInhibit (s : State) (q h i : Bool) :
    (s.doPosition q h i).fs.irqInhibit = s.fs.irqInhibit := by
  rw [State.doPosition_fs]; split <;> rfl

theorem FsMode.positions_eq (m : FsMode) : m.positions = if m = .fourStep then 4 else 5 := by cases m <;> rfl

/-- R303 by effect: every position but the idle fifth clocks the quarter frames, positions 1 and 3 the half frames, and
position 3 of the 4-step mode interrupts. -/
theorem fsPattern_eq {m : FsMode} {p : BitVec 3} (h : p.toNat < m.positions) : fsPattern m p.toNat =
    (decide (p.toNat < 4), decide (p = 1 ∨ p = 3), decide (m = .fourStep ∧ p = 3)) := by
  cases m <;> revert p <;> decide

/-! ## The clock of the sequencer (R301) -/

theorem FrameSequencer.nextStep_toNat (f : FrameSequencer) :
    f.nextStep.toNat = (f.step.toNat + 1) % f.mode.positions := by
  obtain ⟨hpos, hle⟩ := f.mode.positions_pos_le
  have hlt := Nat.mod_lt (f.step.toNat + 1) hpos
  rw [FrameSequencer.nextStep, BitVec.toNat_ofNat, Nat.mod_eq_of_lt (by omega)]

/-- A position run moves the step counter from where it was before the position: the position itself leaves it. -/
theorem State.runPosition_eq {s : State} (h : s.fs.step.toNat < s.fs.mode.positions) : s.runPosition =
    { s.doPosition (decide (s.fs.step.toNat < 4)) (decide (s.fs.step = 1 ∨ s.fs.step = 3))
        (decide (s.fs.mode = .fourStep ∧ s.fs.step = 3)) with fs.step := s.fs.nextStep } := by
  simp only [State.runPosition, FrameSequencer.nextStep, State.doPosition_step, State.doPosition_mode, fsPattern_eq h]

theorem State.fsClock_counts {s : State} (h : s.fs.div.counter ≠ 0) :
    s.fsClock = { s with fs.div.counter := s.fs.div.counter - 1 } := by
  rw [State.fsClock, Divider.clock_counts h]
  rfl

theorem State.fsClock_fires {s : State} (hfires : s.fs.div.counter = 0)
    (hstep : s.fs.step.toNat < s.fs.mode.positions) :
    s.fsClock = { ({ s with fs.div.counter := s.fs.div.period } : State).doPosition (decide (s.fs.step.toNat < 4))
        (decide (s.fs.step = 1 ∨ s.fs.step = 3)) (decide (s.fs.mode = .fourStep ∧ s.fs.step = 3)) with
      fs.step := s.fs.nextStep } := by
  rw [State.fsClock, Divider.clock_fires hfires]
  exact State.runPosition_eq (s := { s with fs.div.counter := s.fs.div.period }) hstep

/-- Settles O44: the position's clocks are the position without its flag, and the clock has the prescaler's two
cases. -/
theorem sequencerOperations : Obligations.SequencerOperations := by
  refine ⟨fun q h i s => ⟨s.doPosition q false false, s.doPosition q h false,
    exec_clockQuarterFrameAll_doPosition s q, exec_clockHalfFrameAll_doPosition s q h, ?position⟩,
    fun s => ⟨fun hcounts => ?counts, fun hfires hstep => ⟨_, exec_fsDoPosition _ _ _ _, ?fires⟩⟩⟩
  case position => rw [exec_fsDoPosition, State.doPosition_eq]
  case counts => rw [exec_fsClock, State.fsClock_counts hcounts]
  case fires => rw [exec_fsClock, State.fsClock_fires hfires hstep, FrameSequencer.nextStep, FsMode.positions_eq]

/-! ## The sequencer over a run of `STEP`s (R301, R305) -/

theorem runsTo_nil {s t : State} : RunsTo s [] t ↔ t = s.withEvents [] :=
  ⟨fun h => (Host.Outcome.next.inj h).symm, fun h => h ▸ rfl⟩

/-- A run whose first event is a `STEP` is a run of the other events from the state after it. -/
theorem runsTo_step_cons {s t : State} {es : List Event} :
    RunsTo s (.step :: es) t ↔ RunsTo (s.withEvents es).cycle.resample es t := by
  have hevents : (s.withEvents es).cycle.resample.withEvents es = (s.withEvents es).cycle.resample :=
    State.withEvents_self (State.cycle_resample_pending _)
  unfold RunsTo
  rw [hevents, List.length_cons, run_step]
  rfl

/-- Of the parts of a `STEP` only the sequencer's clock touches the sequencer (R321). -/
theorem State.cycle_resample_fs (s : State) : s.cycle.resample.fs = s.fsClock.fs := by
  rw [State.resample_frame]
  simp [State.cycle]

/-- The cycles since the sequence began: 7457 for each position passed, and those of the current interval (R305). -/
def FrameSequencer.elapsed (f : FrameSequencer) : Nat := 7457 * f.step.toNat + (7456 - f.div.counter.toNat)

/-- The current position is the quotient of the elapsed cycles by 7457, and the cycles of its interval the remainder. -/
theorem FrameSequencer.elapsed_div_mod (f : FrameSequencer) :
    f.elapsed / 7457 = f.step.toNat ∧ f.elapsed % 7457 = 7456 - f.div.counter.toNat := by
  unfold FrameSequencer.elapsed
  omega

theorem FrameSequencer.Sound.counter_le {f : FrameSequencer} (h : f.Sound) : f.div.counter.toNat ≤ 7456 := by
  have hcounter := h.counter
  rwa [h.period] at hcounter

theorem FrameSequencer.Sound.elapsed_lt {f : FrameSequencer} (h : f.Sound) :
    f.elapsed < 7457 * f.mode.positions := by
  have hstep := h.step
  unfold FrameSequencer.elapsed
  omega

/-- R301: the clock moves the sequence one cycle on, and from its last cycle back to its first. -/
theorem State.fsClock_elapsed {s : State} (h : s.fs.Sound) :
    s.fsClock.fs.elapsed = (s.fs.elapsed + 1) % (7457 * s.fs.mode.positions) := by
  have hstep := h.step
  have hcounter := h.counter_le
  by_cases hfires : s.fs.div.counter = 0
  · rw [State.fsClock_fires hfires hstep]
    have hnow : s.fs.elapsed + 1 = 7457 * (s.fs.step.toNat + 1) := by
      rw [FrameSequencer.elapsed, hfires]
      rfl
    rw [hnow, Nat.mul_mod_mul_left]
    simp [FrameSequencer.elapsed, FrameSequencer.nextStep_toNat, h.period]
  · rw [State.fsClock_counts hfires]
    have hpos : s.fs.div.counter.toNat ≠ 0 := BitVec.toNat_ne_iff_ne.mpr hfires
    simp only [FrameSequencer.elapsed, toNat_sub_one_of_ne_zero hfires]
    rw [Nat.mod_eq_of_lt] <;> omega

theorem State.fsClock_mode_irqInhibit (s : State) :
    s.fsClock.fs.mode = s.fs.mode ∧ s.fsClock.fs.irqInhibit = s.fs.irqInhibit := by
  unfold State.fsClock
  dsimp only
  split
  · simp [State.runPosition]
  · exact ⟨rfl, rfl⟩

/-- `g` is the sequencer `f` after `n` cycles of clocks alone: still sound, its mode and inhibit bit as they were, and
the sequence `n` cycles on. -/
structure FrameSequencer.CyclesLater (f : FrameSequencer) (n : Nat) (g : FrameSequencer) : Prop where
  sound : g.Sound
  mode : g.mode = f.mode
  irqInhibit : g.irqInhibit = f.irqInhibit
  elapsed : g.elapsed = (f.elapsed + n) % (7457 * f.mode.positions)

theorem FrameSequencer.Sound.zeroCyclesLater {f : FrameSequencer} (h : f.Sound) : f.CyclesLater 0 f :=
  ⟨h, rfl, rfl, (Nat.mod_eq_of_lt h.elapsed_lt).symm⟩

theorem FrameSequencer.CyclesLater.trans {f g k : FrameSequencer} {m n : Nat} (hfg : f.CyclesLater m g)
    (hgk : g.CyclesLater n k) : f.CyclesLater (m + n) k where
  sound := hgk.sound
  mode := hgk.mode.trans hfg.mode
  irqInhibit := hgk.irqInhibit.trans hfg.irqInhibit
  elapsed := by rw [hgk.elapsed, hfg.elapsed, hfg.mode, Nat.mod_add_mod, Nat.add_assoc]

/-- A `STEP` is one cycle of the sequencer. -/
theorem State.cycle_resample_cyclesLater {s : State} (h : s.fs.Sound) : s.fs.CyclesLater 1 s.cycle.resample.fs := by
  rw [State.cycle_resample_fs]
  obtain ⟨hmode, hinhibit⟩ := s.fsClock_mode_irqInhibit
  exact ⟨State.fsClock_fs_sound h, hmode, hinhibit, State.fsClock_elapsed h⟩

theorem RunsTo.cyclesLater {n : Nat} {s t : State} (h : s.fs.Sound) (hrun : RunsTo s (List.replicate n .step) t) :
    s.fs.CyclesLater n t.fs := by
  induction n generalizing s with
  | zero =>
    obtain rfl := runsTo_nil.mp hrun
    exact h.zeroCyclesLater
  | succ n ih =>
    have hstep := State.cycle_resample_cyclesLater (s := s.withEvents (List.replicate n .step)) h
    rw [Nat.add_comm]
    exact hstep.trans (ih hstep.sound (runsTo_step_cons.mp hrun))

/-- Settles O45: the elapsed cycles grow by `n` modulo the length of the sequence, and the position and the prescaler
are their quotient and remainder by 7457. -/
theorem sequencerTiming : Obligations.SequencerTiming := by
  intro n s t hperiod hcounter hstep hrun
  obtain ⟨hsound, hmode, hinhibit, helapsed⟩ := hrun.cyclesLater ⟨hstep, hperiod, hperiod.symm ▸ hcounter⟩
  obtain ⟨hdiv, hmod⟩ := t.fs.elapsed_div_mod
  have hcounter' := hsound.counter_le
  have hsum : s.fs.elapsed + n = 7456 - s.fs.div.counter.toNat + n + 7457 * s.fs.step.toNat := by
    unfold FrameSequencer.elapsed
    omega
  rw [helapsed, hsum] at hdiv hmod
  rw [Nat.mod_mul_right_div_self, Nat.add_mul_div_left _ _ (by decide), Nat.add_comm _ s.fs.step.toNat] at hdiv
  rw [Nat.mod_mul_right_mod, Nat.add_mul_mod_self_left] at hmod
  exact ⟨by omega, hdiv.symm, hmode, hinhibit⟩

end Sys2Proof.Machine

/-! # The mixer family: `STEP`, the mix and the resampler (R321 to R332) -/

namespace Sys2Proof.Machine

/-! ## The order of a `STEP` and of the timers in it (R321, R323) -/

theorem exec_clockTimers (s : State) : exec .clockTimers s = .next s.clockTimers := rfl

theorem exec_mix (s : State) : exec .mix s = .next (s.returning (.rational s.mixValue)) := rfl

theorem exec_resample (s : State) : exec .resample s = .next s.resample := rfl

/-- Settles O19: the states between the sub-steps are those that `State.cycle` passes through. -/
theorem stepEventOrder : Obligations.StepEventOrder :=
  fun s => ⟨s.fsClock, s.fsClock.clockTimers, s.fsClock.clockTimers.mixValue, s.cycle.resample,
    exec_fsClock s, exec_clockTimers s.fsClock, exec_mix s.fsClock.clockTimers, exec_resample s.cycle, exec_step s⟩

theorem State.clockTimers_odd {s : State} (h : s.phase2 = true) :
    s.clockTimers = { s with tri := s.tri.clockTimer, phase2 := false } := by
  simp [State.clockTimers, h]

theorem State.clockTimers_even {s : State} (h : s.phase2 = false) : s.clockTimers =
    { ({ s with tri := s.tri.clockTimer } : State).clockHalfRateTimers with phase2 := true } := by
  simp [State.clockTimers, h]

/-- Settles O49: in an even cycle the four half-rate timers act on disjoint state, so their one update is the sequence
of the four operations. -/
theorem clockTimersCadence : Obligations.ClockTimersCadence := by
  refine fun s => ⟨_, exec_triangleClockTimer s, fun hodd => ?odd,
    fun heven => ⟨_, _, _, _, exec_pulseClockTimer .p1 _, exec_pulseClockTimer .p2 _, exec_noiseClockTimer _,
      exec_dmcClockTimer _, ?even⟩⟩
  case odd => rw [exec_clockTimers, State.clockTimers_odd hodd]
  case even =>
    rw [exec_clockTimers, State.clockTimers_even heven]
    rfl

/-! ## The mix (R324, R326, R327) -/

theorem pulseTable_eq_div (n : Nat) : pulseTable n = 597 * (n : Rat) / (50800 + 625 * (n : Rat)) := by
  simp [pulseTable, Rat.mkRat_eq_div]

theorem tndTable_eq_div (n : Nat) : tndTable n = 16367 * (n : Rat) / (2432900 + 10000 * (n : Rat)) := by
  simp [tndTable, Rat.mkRat_eq_div]

theorem maxMix_eq_div : maxMix = 3096930587 / 3096991950 := Rat.mkRat_eq_div _ _

/-- Settles O50: the tables' entries as quotients, and the bounds of the mix value. -/
theorem mixValue : Obligations.MixValue := by
  refine fun s => ⟨s.mixValue, ?sum, s.mixValue_nonneg, maxMix_eq_div ▸ s.mixValue_le, exec_mix s⟩
  rw [State.mixValue, pulseTable_eq_div, tndTable_eq_div, State.pulseIn, State.tndIn]

/-! ## The scaling (R331) -/

theorem exec_scale (avg : Rat) (s : State) :
    exec (.scale avg) s = .next (s.returning (.sample (scaleSample avg))) := rfl

/-- The sample is the floor of the scaled average, moved down by 32768: the one integer in the half-open interval. -/
theorem scaleSample_bounds (avg : Rat) :
    (scaleSample avg : Rat) + 32768 ≤ avg * 65535 ∧ avg * 65535 < (scaleSample avg : Rat) + 32769 := by
  have hlow : ((avg * 65535).floor : Rat) ≤ avg * 65535 := Rat.floor_le _
  have hhigh := Rat.lt_floor_add_one (avg * 65535)
  rw [scaleSample]
  push_cast at hhigh ⊢
  constructor <;> linarith

/-- Settles O51: the bounds of a floor, and the range of the scaling on averages of [0,1). -/
theorem scaleValue : Obligations.ScaleValue := by
  refine fun avg s => ⟨scaleSample avg, scaleSample_bounds avg, fun havg => ?range, exec_scale avg s⟩
  obtain ⟨hlow, hhigh⟩ : 0 ≤ avg ∧ avg < 1 := by simpa [Instr.wellFormed, averageInRange] using havg
  simpa [sampleInRange] using scaleSample_inRange hlow hhigh

/-! ## The resampler (R329, R330) -/

theorem exec_fifoAppend (x : Sample) (s : State) :
    exec (.fifoAppend x) s = .next ((s.append x).1.returning (.flag (s.append x).2)) := rfl

/-- Settles O52: the two cases of the resampler, with the emission's append as the operation `Fifo.append`. -/
theorem resampleOperation : Obligations.ResampleOperation := by
  refine fun s => ⟨fun hwithin => ?within, fun hemits hcount => ?emits⟩
  case within => rw [exec_resample, State.resample_within hwithin]
  case emits =>
    have haverage : s.mix.average = s.mix.sum / s.mix.count := if_neg hcount
    refine ⟨scaleSample s.mix.average, _, _, haverage ▸ scaleSample_bounds _, exec_fifoAppend _ s, rfl, ?_⟩
    rw [exec_resample, State.resample_emits hemits, State.emit_eq]
    rfl

/-! ## The rate of the emissions (R330, R332) -/

theorem State.cycle_acc (s : State) : s.cycle.mix.acc = s.mix.acc := by simp [State.cycle, Mixer.accumulate]

/-- The samples emitted and the accumulator of `t` are those of `n` cycles after `s`: what has been accumulated is
divided by `CPU_HZ`, the quotient emitted and the remainder left. -/
structure EmissionsLater (s : State) (n : Nat) (t : State) : Prop where
  emitted : t.obs.emitted.length = s.obs.emitted.length + (s.mix.acc + n * 44100) / 1789773
  acc : t.mix.acc = (s.mix.acc + n * 44100) % 1789773

/-- The quotients of two stretches add up, as the second starts from the remainder of the first: no drift. -/
theorem EmissionsLater.trans {s t u : State} {m n : Nat} (hst : EmissionsLater s m t) (htu : EmissionsLater t n u) :
    EmissionsLater s (m + n) u := by
  obtain ⟨hemitted, hacc⟩ := hst
  obtain ⟨hemitted', hacc'⟩ := htu
  constructor <;> omega

theorem State.resample_emissionsLater {s : State} (h : s.mix.acc < 1789773) : EmissionsLater s 1 s.resample := by
  by_cases hemits : 1789773 ≤ s.mix.acc + 44100
  · have hquotient : (s.mix.acc + 1 * 44100) / 1789773 = 1 := by omega
    have hremainder : s.mix.acc + 44100 - 1789773 = (s.mix.acc + 1 * 44100) % 1789773 := by omega
    rw [State.resample_emits hemits, State.emit_eq]
    exact ⟨by rw [hquotient]; exact List.length_append, hremainder⟩
  · have hwithin : s.mix.acc + 1 * 44100 < 1789773 := by omega
    rw [State.resample_within hwithin]
    exact ⟨by rw [Nat.div_eq_of_lt hwithin]; rfl, (Nat.mod_eq_of_lt hwithin).symm⟩

/-- A `STEP` is one cycle of the resampler. -/
theorem State.cycle_resample_emissionsLater {s : State} (h : s.mix.acc < 1789773) :
    EmissionsLater s 1 s.cycle.resample := by
  obtain ⟨hemitted, hacc⟩ := State.resample_emissionsLater (s := s.cycle) (s.cycle_acc.trans_lt h)
  rw [State.cycle_acc] at hemitted hacc
  rw [State.cycle_emitted] at hemitted
  exact ⟨hemitted, hacc⟩

theorem RunsTo.emissionsLater {n : Nat} {s t : State} (h : s.mix.acc < 1789773)
    (hrun : RunsTo s (List.replicate n .step) t) : EmissionsLater s n t := by
  induction n generalizing s with
  | zero =>
    obtain rfl := runsTo_nil.mp hrun
    exact ⟨by simp [Nat.div_eq_of_lt h], by simp [Nat.mod_eq_of_lt h]⟩
  | succ n ih =>
    obtain ⟨hemitted, hacc⟩ := State.cycle_resample_emissionsLater (s := s.withEvents (List.replicate n .step)) h
    have hacc' := Nat.mod_lt (s.mix.acc + 1 * 44100) (by decide : 0 < 1789773)
    rw [Nat.add_comm]
    exact EmissionsLater.trans ⟨hemitted, hacc⟩ (ih (hacc ▸ hacc') (runsTo_step_cons.mp hrun))

/-- Settles O53: the division law of a run, and at reset, where nothing is accumulated or emitted, its quotient passes
from `k - 1` to `k` between the cycles `n` and `n + 1`. -/
theorem emissionRate : Obligations.EmissionRate := by
  refine ⟨fun n s t hacc hrun => ?law, fun k n t u hk hn hrun hrun' => ?fromReset⟩
  case law =>
    obtain ⟨hemitted, hacc'⟩ := hrun.emissionsLater hacc
    exact ⟨hemitted, hacc'⟩
  case fromReset =>
    have hacc : State.reset.mix.acc = 0 := rfl
    have hnone : State.reset.obs.emitted.length = 0 := rfl
    have hbefore := (hrun.emissionsLater (by decide)).emitted
    have hafter := (hrun'.emissionsLater (by decide)).emitted
    have hbetween : n * 44100 < k * 1789773 ∧ k * 1789773 ≤ (n + 1) * 44100 := by omega
    rw [hacc, hnone] at hbefore hafter
    constructor <;> omega

end Sys2Proof.Machine

/-! # The stream-buffer, interrupt and reset families, and the laws of all operations (R340 to R344, R355 to R361,
R380 to R383, R396) -/

namespace Sys2Proof.Machine

/-! ## Appends and the consumer's events (R341 to R344) -/

/-- Settles O23: the three cases of an append, its answer and the sample offered recorded. -/
theorem fifoAppend : Obligations.FifoAppend := by
  refine fun x s => ⟨fun hroom => ?stores, fun hfull hread => ?compacts, fun hfull hunread => ?fails⟩
  case stores => rw [exec_fifoAppend, State.append, Fifo.append_stores hroom]; rfl
  case compacts => rw [exec_fifoAppend, State.append, Fifo.append_compacts hfull hread]; rfl
  case fails => rw [exec_fifoAppend, State.append, Fifo.append_fails hfull hunread]; rfl

theorem Fifo.unread_eq_nil {f : Fifo} (h : f.seq.length ≤ f.off) : f.unread = [] := List.drop_eq_nil_of_le h

/-- Settles O22: the two cases of a pull, and the quotient a seek writes lies between its bounds. -/
theorem consumerEvents : Obligations.ConsumerEvents := by
  refine fun s => ⟨fun hnothing => ?nothing, fun hsome => ?remainder,
    fun t => ⟨t * 44100 * 1 / 1000, ?low, ?high, exec_seek t s⟩⟩
  case nothing =>
    rw [exec_pull, Fifo.pull_nothing hnothing, Fifo.unread_eq_nil hnothing, List.append_nil]
    rfl
  case remainder =>
    rw [exec_pull, Fifo.pull_remainder hsome]
    rfl
  case low | high => omega

/-- Appends that fit are stored one after another. -/
theorem Fifo.foldl_append_of_fits (xs : List Sample) {f : Fifo} (h : f.seq.length + xs.length ≤ f.cap) :
    xs.foldl (fun g x => (g.append x).1) f = { f with seq := f.seq ++ xs } := by
  induction xs generalizing f with
  | nil => simp
  | cons x xs ih =>
    rw [List.length_cons] at h
    have hroom : f.seq.length < f.cap := by omega
    have hrest : ({ f with seq := f.seq ++ [x] } : Fifo).seq.length + xs.length ≤ f.cap := by
      simp only [List.length_append, List.length_singleton]
      omega
    rw [List.foldl_cons, Fifo.append_stores hroom, ih hrest]
    simp

/-- Settles O54: the appends fill an empty FIFO with the samples, which the first pull takes and the second finds
gone. -/
theorem appendThenPull : Obligations.AppendThenPull := by
  refine fun f xs => ⟨fun hempty hoff hsome hfits => ?pulled, fun x hfull hoff => Fifo.append_fails hfull.ge hoff,
    fun hoff => Fifo.pull_nothing hoff.ge⟩
  have hstored := Fifo.foldl_append_of_fits xs (f := f) (by simpa [hempty] using hfits)
  have hunread : f.off < (f.seq ++ xs).length := by
    simpa [hempty, hoff] using List.length_pos_iff.mpr hsome
  rw [hstored, Fifo.pull_remainder hunread, Fifo.pull_nothing (Nat.le_refl _)]
  simp [hempty, hoff]

/-! ## The components by name (R25 to R29) -/

/-- Settles O25: the accessors are defined by cases of the name, so each clause is one case of a definition. -/
theorem componentsByName : Obligations.ComponentsByName := by
  intro s
  and_intros <;> intros <;> rfl

/-! ## Reset and construction (R380 to R383) -/

/-- Settles O20: every field is the one R42's table gives. -/
theorem resetEvent : Obligations.ResetEvent := fun _ => rfl

/-- Settles O21: a reset keeps the FIFO and the model's own fields, so from those of construction it gives the state at
construction, whose derived values are evaluated. -/
theorem constructionIsResetWithAnEmptyFifo : Obligations.ConstructionIsResetWithAnEmptyFifo := by
  refine ⟨fun s hfifo hmem hpending hobs => ?_, rfl, Nat.le_add_left _ _, rfl, rfl, rfl, rfl, rfl, rfl, rfl, rfl⟩
  rw [resetEvent, hfifo, hmem, hpending, hobs]
  rfl

/-- Settles O58: each component's reset value is sound, no address has been read and no sample emitted. -/
theorem invariantsAtReset : Obligations.InvariantsAtReset := by
  have hcap : 1 ≤ State.reset.fifo.cap := Nat.le_add_left _ _
  exact ⟨{
    channels := (channelsSound_iff _).mpr
      ⟨Pulse.reset_sound, Pulse.reset_sound, Triangle.reset_sound, Noise.reset_sound⟩
    dmc := (dmcSound_iff _).mpr ⟨Dmc.reset_sound, List.forall_mem_nil _⟩
    sequencer := (sequencerSound_iff _).mpr FrameSequencer.reset_sound
    mixer := (mixerSound_iff _).mpr Mixer.reset_sound
    fifo := ⟨hcap, Nat.zero_le _, List.forall_mem_nil _, List.forall_mem_nil _⟩
    memory := Memory.wf_reset }, fieldsFollowLatches_reset⟩

/-! ## No operation stops (R355) -/

/-- Every arm of the dispatch is a meaning, and every meaning answers a next state. -/
theorem exec_total (i : Instr) (s : State) : ∃ t, exec i s = .next t := by
  cases i <;> exact ⟨_, rfl⟩

theorem step_total (s : State) : ∃ t, step s = .next t := by
  cases hp : s.pending with
  | nil => exact ⟨s, step_of_pending_nil hp⟩
  | cons e rest =>
    rw [step_of_pending_cons hp]
    exact exec_total _ _

theorem safeRun (s : State) : SafeRun s := by
  intro n
  induction n generalizing s with
  | zero => exact ⟨s, rfl⟩
  | succ n ih =>
    obtain ⟨t, ht⟩ := step_total s
    rw [run_next ht]
    exact ih t

/-- Settles O7: by cases of the operation, and a run by induction on its steps. -/
theorem noOperationStops : Obligations.NoOperationStops := ⟨exec_total, safeRun⟩

/-! ## What a register write leaves alone (R260) -/

/-- The control clocks that a mode write may fire advance no waveform (R304). -/
theorem State.writeMode_phases (s : State) (m inh : Bool) :
    (s.writeMode m inh).p1.phase = s.p1.phase ∧ (s.writeMode m inh).p2.phase = s.p2.phase ∧
      (s.writeMode m inh).tri.phase = s.tri.phase ∧ (s.writeMode m inh).noi.lfsr = s.noi.lfsr := by
  cases m with
  | false => exact ⟨rfl, rfl, rfl, rfl⟩
  | true =>
    have hpulse (p : Pulse) (x : PulseId) : (p.clockQuarterFrame.clockHalfFrame x).phase = p.phase :=
      Pulse.sweepClock_phase _ x
    have htri : s.tri.clockQuarterFrame.clockHalfFrame.phase = s.tri.phase := by
      simp only [Triangle.clockHalfFrame, Triangle.clockQuarterFrame, Triangle.linearClock_eq]
    exact ⟨hpulse s.p1 .p1, hpulse s.p2 .p2, htri, rfl⟩

/-- Of the register writes only register 3 of a pulse channel restarts a phase (R266, R270, R276).  The alternatives of
`decodeWord` are in the order of the ids: `h_24` is FRAME, `h_25` the reserved ids. -/
theorem exec_write_phases {w : WriteWord} {s t : State} (h : exec (decodeWord w) s = .next t) :
    t.p1.phase = (if wordId w = 0x03 then 0 else s.p1.phase) ∧
    t.p2.phase = (if wordId w = 0x07 then 0 else s.p2.phase) ∧ t.tri.phase = s.tri.phase ∧
      t.noi.lfsr = s.noi.lfsr := by
  have hp1 : wordId w = 0x03 ↔ (wordId w).toNat = 0x03 := BitVec.toNat_inj.symm
  have hp2 : wordId w = 0x07 ↔ (wordId w).toNat = 0x07 := BitVec.toNat_inj.symm
  simp only [hp1, hp2]
  unfold decodeWord at h
  split at h <;> cases h
  case h_24 hid =>
    rw [hid]
    exact State.writeMode_phases _ _ _
  case h_25 => refine ⟨(if_neg ?_).symm, (if_neg ?_).symm, rfl, rfl⟩ <;> assumption
  all_goals
    rename_i hid
    rw [hid]
    exact ⟨rfl, rfl, rfl, rfl⟩

theorem exec_write_phase2_result {w : WriteWord} {s t : State} (h : exec (decodeWord w) s = .next t) :
    t.phase2 = s.phase2 ∧ t.obs.result = s.obs.result := by
  unfold decodeWord at h
  split at h <;> cases h <;> simp [State.writeLengthEnables]

@[simp] theorem Dmc.fill_bits (r : Latches) (m : List Host.Cell) (d : Dmc) : (d.fill r m).1.bits = d.bits := by
  by_cases hidle : d.bufFull = true ∨ d.remaining = 0
  · rw [Dmc.fill_idle hidle]
  · obtain ⟨hbuf, hleft⟩ := not_or.mp hidle
    rw [Bool.not_eq_true] at hbuf
    rw [Dmc.fill_fetches hbuf hleft]
    unfold Dmc.endSample
    repeat' split
    all_goals rfl

/-- An ENABLE write may fetch a byte and starts no output cycle (R290). -/
theorem Dmc.writeEnable_bits (on : Bool) (r : Latches) (m : List Host.Cell) (d : Dmc) :
    (d.writeEnable on r m).1.bits = d.bits := by
  cases on with
  | false => rfl
  | true =>
    rw [Dmc.writeEnable, if_pos rfl, Dmc.fill_bits]
    split <;> rfl

theorem exec_write_bits {w : WriteWord} {s t : State} (h : exec (decodeWord w) s = .next t) :
    t.dmc.bits = s.dmc.bits := by
  cases exec_write_dmcEvent h with
  | keeps _ h | writesR1 _ h => rw [h.dmc]; rfl
  | writesR0 _ _ h => rw [h.dmc, Dmc.quietly, Dmc.writeR0_eq]
  | enables _ _ h => rw [h.dmc, Dmc.writeEnable_bits]

/-- Settles O9: the fields one group at a time, each by its own lemma over the registers. -/
theorem writesLeaveTheOutputSideAlone : Obligations.WritesLeaveTheOutputSideAlone := by
  intro w s t h
  obtain ⟨hfifo, hemitted, -⟩ := exec_write_sameStream w s t h
  obtain ⟨hmix, -⟩ := exec_write_mix_mem h
  obtain ⟨hphase2, hresult⟩ := exec_write_phase2_result h
  obtain ⟨hp1, hp2, htri, hnoi⟩ := exec_write_phases h
  exact ⟨hphase2, hmix, hfifo, hemitted, hresult, hp1, hp2, htri, hnoi, exec_write_bits h⟩

/-! ## The frame interrupt flag (R302, R304, R357) -/

/-- Position 3 of the 4-step mode is the only one with an interrupt, also among the positions no mode has (R303). -/
theorem fsPattern_irq (m : FsMode) (p : BitVec 3) :
    (fsPattern m p.toNat).2.2 = decide (m = .fourStep ∧ p = 3) := by
  cases m <;> revert p <;> decide

theorem State.runPosition_irqFlag (s : State) : s.runPosition.fs.irqFlag =
    (s.fs.irqFlag || (decide (s.fs.mode = .fourStep ∧ s.fs.step = 3) && !s.fs.irqInhibit)) := by
  rw [← fsPattern_irq]
  exact congrArg (·.fs.irqFlag) (s.doPosition_eq _ _ _)

/-- The sequencer's clock keeps a set flag, and sets a clear one by running that position uninhibited (R301, R302). -/
theorem State.fsClock_irqFlag (s : State) : s.fsClock.fs.irqFlag = (s.fs.irqFlag ||
    (decide (s.fs.div.counter = 0) && (decide (s.fs.mode = .fourStep ∧ s.fs.step = 3) && !s.fs.irqInhibit))) := by
  by_cases hfires : s.fs.div.counter = 0
  · rw [State.fsClock, Divider.clock_fires hfires, decide_eq_true hfires, Bool.true_and]
    exact State.runPosition_irqFlag _
  · rw [State.fsClock_counts hfires, decide_eq_false hfires, Bool.false_and, Bool.or_false]

/-- Of the register writes only FRAME touches the flag: bit 6 clears it (R292, R304). -/
theorem exec_write_irqFlag {w : WriteWord} {s t : State} (h : exec (decodeWord w) s = .next t) :
    t.fs.irqFlag = (s.fs.irqFlag && !(decide (wordId w = 0x17) && w.getLsbD 6)) := by
  have hframe : wordId w = 0x17 ↔ (wordId w).toNat = 0x17 := BitVec.toNat_inj.symm
  have hbit : Field.frameInhibit (wordByte w) = w.getLsbD 6 := by simp [Field.frameInhibit, wordByte]
  simp only [hframe]
  unfold decodeWord at h
  split at h <;> cases h
  case h_24 hid =>
    rw [State.writeMode_fs, FrameSequencer.writeMode_eq, hbit, hid]
    cases w.getLsbD 6 <;> simp
  case h_25 =>
    have hid : (wordId w).toNat ≠ 0x17 := by assumption
    rw [decide_eq_false hid]
    exact (Bool.and_true _).symm
  all_goals
    rename_i hid
    rw [hid]
    exact (Bool.and_true _).symm

/-- Settles O46: by cases of the event taken; the consumer's events leave the sequencer alone. -/
theorem frameInterruptFlag : Obligations.FrameInterruptFlag := by
  intro s t hstep
  obtain ⟨-, ht⟩ | ⟨e, rest, hpending, ht⟩ := step_cases hstep
  · obtain rfl := Host.Outcome.next.inj ht
    exact ⟨fun hclear hset => absurd (hclear.symm.trans hset) Bool.false_ne_true,
      fun hset hclear => absurd (hclear.symm.trans hset) Bool.false_ne_true⟩
  · rw [hpending, List.head?_cons]
    cases e with
    | write w =>
      have hflag := exec_write_irqFlag ht.symm
      refine ⟨fun hclear hset => ?_, fun hset hclear => .inr ⟨w, rfl, ?_⟩⟩
      · simp [hflag, hclear] at hset
      · simpa [hflag, hset] using hclear
    | step =>
      obtain rfl := Host.Outcome.next.inj ((exec_step _).symm.trans ht.symm)
      have hflag := State.fsClock_irqFlag { s with pending := rest }
      rw [State.cycle_resample_fs]
      refine ⟨fun hclear hset => ?_, fun hset hclear => ?_⟩
      · obtain ⟨hfires, ⟨hmode, hposition⟩, hopen⟩ := by simpa [hflag, hclear] using hset
        exact ⟨rfl, hmode, hposition, hfires, hopen⟩
      · simp [hflag, hset] at hclear
    | reset =>
      cases ht
      exact ⟨fun _ hset => absurd hset Bool.false_ne_true, fun _ _ => .inl rfl⟩
    | pull | seek =>
      cases ht
      exact ⟨fun hclear hset => absurd (hclear.symm.trans hset) Bool.false_ne_true,
      fun hset hclear => absurd (hclear.symm.trans hset) Bool.false_ne_true⟩

/-! ## What every operation leaves alone (R12, R70, R340) -/

/-- `t` has the sample memory, the events to come and the capacity of `s`, and what was observed up to `s`, perhaps with
more at the end. -/
structure State.Extends (s t : State) : Prop where
  mem : t.mem = s.mem
  pending : t.pending = s.pending
  cap : t.fifo.cap = s.fifo.cap
  reads : s.obs.reads <+: t.obs.reads
  emitted : s.obs.emitted <+: t.obs.emitted
  delivered : s.obs.delivered <+: t.obs.delivered

/-- An operation that touches none of these but the value returned. -/
theorem State.Extends.of_eq {s t : State} (hmem : t.mem = s.mem) (hpending : t.pending = s.pending)
    (hfifo : t.fifo = s.fifo) (hobs : t.obs = { s.obs with result := t.obs.result }) : s.Extends t where
  mem := hmem
  pending := hpending
  cap := by rw [hfifo]
  reads := by rw [hobs]
  emitted := by rw [hobs]
  delivered := by rw [hobs]

theorem State.Extends.trans {s t u : State} (hst : s.Extends t) (htu : t.Extends u) : s.Extends u where
  mem := htu.mem.trans hst.mem
  pending := htu.pending.trans hst.pending
  cap := htu.cap.trans hst.cap
  reads := hst.reads.trans htu.reads
  emitted := hst.emitted.trans htu.emitted
  delivered := hst.delivered.trans htu.delivered

theorem State.extends_onDmc (s : State) (f : Latches → List Host.Cell → Dmc → Dmc × Option Addr) :
    s.Extends (s.onDmc f) :=
  ⟨rfl, rfl, rfl, List.prefix_append _ _, List.prefix_rfl, List.prefix_rfl⟩

theorem State.extends_fsClock (s : State) : s.Extends s.fsClock :=
  .of_eq s.fsClock_mem s.fsClock_pending s.fsClock_fifo (by simp)

theorem State.extends_clockTimers (s : State) : s.Extends s.clockTimers where
  mem := s.clockTimers_mem
  pending := s.clockTimers_pending
  cap := by rw [State.clockTimers_fifo]
  reads := by
    rw [State.clockTimers_reads]
    split
    · exact List.prefix_rfl
    · exact List.prefix_append _ _
  emitted := by rw [State.clockTimers_emitted]
  delivered := by rw [State.clockTimers_delivered]

theorem State.extends_cycle (s : State) : s.Extends s.cycle :=
  (s.extends_fsClock.trans s.fsClock.extends_clockTimers).trans (.of_eq rfl rfl rfl rfl)

theorem State.extends_append (s : State) (x : Sample) : s.Extends (s.append x).1 :=
  ⟨rfl, rfl, Fifo.append_cap _ _, List.prefix_rfl, List.prefix_append _ _, List.prefix_rfl⟩

theorem State.extends_resample (s : State) : s.Extends s.resample := by
  by_cases hemits : Config.cpuHz ≤ s.mix.acc + Config.sampleRate
  · rw [State.resample_emits hemits, State.emit_eq]
    exact ⟨rfl, rfl, Fifo.append_cap _ _, List.prefix_rfl, List.prefix_append _ _, List.prefix_rfl⟩
  · rw [State.resample_within (Nat.lt_of_not_le hemits)]
    exact .of_eq rfl rfl rfl rfl

/-- An address presented, a sample offered and the samples pulled are recorded at the end; every other operation records
nothing. -/
theorem exec_extends {i : Instr} {s t : State} (h : exec i s = .next t) : s.Extends t := by
  cases i <;> obtain rfl := Host.Outcome.next.inj h
  case step => exact s.extends_cycle.trans s.cycle.extends_resample
  case clockTimers => exact s.extends_clockTimers
  case resample => exact s.extends_resample
  case fifoAppend x => exact (s.extends_append x).trans (.of_eq rfl rfl rfl rfl)
  case pull => exact ⟨rfl, rfl, Fifo.pull_cap _, List.prefix_rfl, List.prefix_rfl, List.prefix_append _ _⟩
  case seek => exact ⟨rfl, rfl, rfl, List.prefix_rfl, List.prefix_rfl, List.prefix_rfl⟩
  case wEnable b =>
    exact State.Extends.trans (t := s.writeLengthEnables b) (.of_eq rfl rfl rfl rfl) (State.extends_onDmc _ _)
  case dmcFill | dmcOutputClock | dmcStartOutputCycle | dmcClockTimer => exact s.extends_onDmc _
  all_goals constructor <;> simp

/-- Settles O8: the clauses for what an operation extends, the memory as a function of the address among them. -/
theorem memoryIsNeverWritten : Obligations.MemoryIsNeverWritten := by
  intro i s t h
  obtain ⟨hmem, hpending, hcap, hreads, hemitted, hdelivered⟩ := exec_extends h
  exact ⟨fun a => by rw [hmem], hmem, hpending, hcap, hreads, hemitted, hdelivered⟩

/-! ## Operations that do not look at a part of the state -/

/-- What `erase` leaves of the state after `f` depends only on what it leaves of the state before: `f` does not look at
what `erase` erases. -/
def Ignores (erase f : State → State) : Prop := ∀ s, erase (f s) = erase (f (erase s))

/-- `Ignores` for each part of a `STEP` and of a mode write, and what decides between the parts is not erased (R301 to
R304, R321, R323). -/
structure IgnoredByParts (erase : State → State) : Prop where
  keep : Ignores erase fun s => s
  quarter : Ignores erase State.clockQuarterFrameAll
  half : Ignores erase State.clockHalfFrameAll
  raise : Ignores erase fun s => { s with fs := s.fs.raiseIrq }
  prescale : Ignores erase fun s => { s with fs.div := s.fs.div.clock.1 }
  advance : Ignores erase fun s => { s with fs.step := s.fs.nextStep }
  restart (m inh : Bool) : Ignores erase fun s => { s with fs := s.fs.writeMode m inh }
  triangle : Ignores erase fun s => { s with tri := s.tri.clockTimer }
  halfRate : Ignores erase State.clockHalfRateTimers
  toggle : Ignores erase fun s => { s with phase2 := !s.phase2 }
  accumulate : Ignores erase fun s => { s with mix := s.mix.accumulate s.mixValue }
  addRate : Ignores erase fun s => { s with mix.acc := s.mix.acc + Config.sampleRate }
  emit : Ignores erase State.emit
  irqInhibit (s : State) : (erase s).fs.irqInhibit = s.fs.irqInhibit
  mode (s : State) : (erase s).fs.mode = s.fs.mode
  step (s : State) : (erase s).fs.step = s.fs.step
  div (s : State) : (erase s).fs.div = s.fs.div
  phase2 (s : State) : (erase s).phase2 = s.phase2
  mix (s : State) : (erase s).mix = s.mix

section
variable {erase f g : State → State}

theorem Ignores.comp (hf : Ignores erase f) (hg : Ignores erase g) : Ignores erase fun s => g (f s) := by
  intro s
  dsimp only
  rw [hg (f s), hf s, ← hg]

theorem Ignores.ite {c : State → Prop} [DecidablePred c] (hc : ∀ s, c (erase s) ↔ c s) (hf : Ignores erase f)
    (hg : Ignores erase g) : Ignores erase fun s => if c s then f s else g s := by
  intro s
  simp only [hc]
  split
  · exact hf s
  · exact hg s

theorem IgnoredByParts.doPosition (h : IgnoredByParts erase) (quarter half irq : Bool) :
    Ignores erase fun s => s.doPosition quarter half irq := by
  have hquarter := Ignores.ite (c := fun _ => quarter) (fun _ => .rfl) h.quarter h.keep
  have hhalf := hquarter.comp (.ite (c := fun _ => half) (fun _ => .rfl) h.half h.keep)
  have hraises (s : State) : (irq ∧ (erase s).fs.irqInhibit = false) ↔ (irq ∧ s.fs.irqInhibit = false) := by
    rw [h.irqInhibit]
  exact hhalf.comp (.ite (c := fun s => irq ∧ s.fs.irqInhibit = false) hraises h.raise h.keep)

/-- Which position runs is decided by the mode and the step, which are not erased (R301, R303). -/
theorem IgnoredByParts.runPosition (h : IgnoredByParts erase) : Ignores erase State.runPosition := by
  intro s
  have hposition := (h.doPosition (fsPattern s.fs.mode s.fs.step.toNat).1 (fsPattern s.fs.mode s.fs.step.toNat).2.1
    (fsPattern s.fs.mode s.fs.step.toNat).2.2).comp h.advance s
  simp only [State.runPosition, h.mode, h.step]
  exact hposition

theorem IgnoredByParts.fsClock (h : IgnoredByParts erase) : Ignores erase State.fsClock :=
  .ite (c := fun s => s.fs.div.clock.2) (fun s => by rw [h.div]) (h.prescale.comp h.runPosition) h.prescale

theorem IgnoredByParts.clockTimers (h : IgnoredByParts erase) : Ignores erase State.clockTimers :=
  (h.triangle.comp (.ite (c := fun s => s.phase2) (fun s => by rw [h.phase2]) h.keep h.halfRate)).comp h.toggle

theorem IgnoredByParts.cycle (h : IgnoredByParts erase) : Ignores erase State.cycle :=
  (h.fsClock.comp h.clockTimers).comp h.accumulate

theorem IgnoredByParts.resample (h : IgnoredByParts erase) : Ignores erase State.resample := by
  intro s
  by_cases hemits : Config.cpuHz ≤ s.mix.acc + Config.sampleRate
  · rw [State.resample_emits hemits, State.resample_emits (s := erase s) (by rwa [h.mix])]
    exact h.addRate.comp h.emit s
  · have hwithin := Nat.lt_of_not_le hemits
    rw [State.resample_within hwithin, State.resample_within (s := erase s) (by rwa [h.mix])]
    exact h.addRate s

theorem IgnoredByParts.writeMode (h : IgnoredByParts erase) (m inh : Bool) :
    Ignores erase fun s => s.writeMode m inh :=
  (h.restart m inh).comp (.ite (c := fun _ => m) (fun _ => .rfl) (h.quarter.comp h.half) h.keep)

end

/-! ## The interrupt flags are levels (R358, R361) -/

/-- The operation `f` of the sample-playback channel does not look at the interrupt flag. -/
def Dmc.IgnoresIrq (f : Latches → List Host.Cell → Dmc → Dmc × Option Addr) : Prop :=
  ∀ r m d, (f r m d).1.clearIrq = (f r m d.clearIrq).1.clearIrq ∧ (f r m d).2 = (f r m d.clearIrq).2

theorem Dmc.endSample_clearIrq (r : Latches) (d : Dmc) :
    (d.endSample r).clearIrq = (d.clearIrq.endSample r).clearIrq := by
  obtain ⟨_, en, lp, _, _, _, _, _, _, _, _, _, _⟩ := d
  cases en <;> cases lp <;> rfl

theorem Dmc.fill_ignoresIrq : Dmc.IgnoresIrq Dmc.fill := by
  intro r m d
  by_cases hidle : d.bufFull = true ∨ d.remaining = 0
  · have hidle' : d.clearIrq.bufFull = true ∨ d.clearIrq.remaining = 0 := hidle
    rw [Dmc.fill_idle hidle, Dmc.fill_idle hidle']
    exact ⟨rfl, rfl⟩
  obtain ⟨hbuf, hleft⟩ := not_or.mp hidle
  rw [Bool.not_eq_true] at hbuf
  have hbuf' : d.clearIrq.bufFull = false := hbuf
  by_cases hlast : d.remaining = 1
  · rw [Dmc.fill_ends hbuf hlast, Dmc.fill_ends hbuf' hlast]
    exact ⟨Dmc.endSample_clearIrq r (d.fetchByte m), rfl⟩
  · rw [Dmc.fill_continues hbuf hleft hlast, Dmc.fill_continues hbuf' hleft hlast]
    exact ⟨rfl, rfl⟩

theorem Dmc.startOutputCycle_ignoresIrq : Dmc.IgnoresIrq Dmc.startOutputCycle := by
  intro r m d
  cases hbuf : d.bufFull with
  | true =>
    rw [Dmc.startOutputCycle_full hbuf, Dmc.startOutputCycle_full (d := d.clearIrq) hbuf]
    exact Dmc.fill_ignoresIrq r m _
  | false =>
    rw [Dmc.startOutputCycle_empty hbuf, Dmc.startOutputCycle_empty (d := d.clearIrq) hbuf]
    exact ⟨rfl, rfl⟩

theorem Dmc.stepLevel_clearIrq (b : Bool) (d : Dmc) : d.clearIrq.stepLevel b = (d.stepLevel b).clearIrq := by
  simp only [Dmc.stepLevel, apply_ite Dmc.clearIrq]
  rfl

theorem Dmc.shiftOut_clearIrq (d : Dmc) : d.clearIrq.shiftOut = d.shiftOut.clearIrq := by
  rw [Dmc.shiftOut, Dmc.shiftOut, Dmc.stepLevel_clearIrq]
  cases hs : d.silence <;> simp [Dmc.clearIrq, hs]

theorem Dmc.outputClock_ignoresIrq : Dmc.IgnoresIrq Dmc.outputClock := by
  intro r m d
  by_cases hlast : d.bits = 1
  · rw [Dmc.outputClock_last hlast, Dmc.outputClock_last (d := d.clearIrq) hlast, Dmc.shiftOut_clearIrq]
    exact Dmc.startOutputCycle_ignoresIrq r m _
  · rw [Dmc.outputClock_continues hlast, Dmc.outputClock_continues (d := d.clearIrq) hlast, Dmc.shiftOut_clearIrq]
    exact ⟨rfl, rfl⟩

theorem Dmc.clockTimer_ignoresIrq : Dmc.IgnoresIrq Dmc.clockTimer := by
  intro r m d
  by_cases hfires : d.timer.div.counter = 0
  · rw [Dmc.clockTimer_fires hfires, Dmc.clockTimer_fires (d := d.clearIrq) hfires]
    exact Dmc.outputClock_ignoresIrq r m _
  · rw [Dmc.clockTimer_counts hfires, Dmc.clockTimer_counts (d := d.clearIrq) hfires]
    exact ⟨rfl, rfl⟩

theorem State.onDmc_ignores_flags {f : Latches → List Host.Cell → Dmc → Dmc × Option Addr}
    (hf : Dmc.IgnoresIrq f) : Ignores flagsCleared fun s => s.onDmc f := by
  intro s
  obtain ⟨hdmc, hread⟩ := hf s.reg.dmc s.mem s.dmc
  change flagsCleared { s with
    dmc := (f s.reg.dmc s.mem s.dmc).1.clearIrq, obs.reads := s.obs.reads ++ (f s.reg.dmc s.mem s.dmc).2.toList } = _
  rw [hdmc, hread]
  rfl

theorem State.clockHalfRateTimers_ignores_flags : Ignores flagsCleared State.clockHalfRateTimers := by
  have hothers : Ignores flagsCleared fun s =>
      { s with p1 := s.p1.clockTimer .p1, p2 := s.p2.clockTimer .p2, noi := s.noi.clockTimer } := fun _ => rfl
  exact hothers.comp (State.onDmc_ignores_flags Dmc.clockTimer_ignoresIrq)

theorem flags_ignoredByParts : IgnoredByParts flagsCleared where
  keep _ := rfl
  quarter _ := rfl
  half _ := rfl
  raise _ := rfl
  prescale _ := rfl
  advance _ := rfl
  restart m inh _ := by cases inh <;> rfl
  triangle _ := rfl
  halfRate := State.clockHalfRateTimers_ignores_flags
  toggle _ := rfl
  accumulate _ := rfl
  addRate _ := rfl
  emit s := by rw [State.emit_eq, State.emit_eq]; rfl
  irqInhibit _ := rfl
  mode _ := rfl
  step _ := rfl
  div _ := rfl
  phase2 _ := rfl
  mix _ := rfl

/-- `STEP`, its parts and the operations of the sample-playback channel by the lemmas above; every other operation
rewrites components that hold no flag, the operations on a named component at each name. -/
theorem exec_ignores_flags {i : Instr} {s t u : State} (ht : exec i s = .next t)
    (hu : exec i (flagsCleared s) = .next u) : flagsCleared t = flagsCleared u := by
  cases i <;> obtain rfl := Host.Outcome.next.inj ht <;> obtain rfl := Host.Outcome.next.inj hu
  case step => exact flags_ignoredByParts.cycle.comp flags_ignoredByParts.resample s
  case clockTimers => exact flags_ignoredByParts.clockTimers s
  case resample => exact flags_ignoredByParts.resample s
  case fsClock => exact flags_ignoredByParts.fsClock s
  case fsDoPosition q h i => exact flags_ignoredByParts.doPosition q h i s
  case fsWriteMode m inh => exact flags_ignoredByParts.writeMode m inh s
  case wFrame b => exact flags_ignoredByParts.writeMode _ _ s
  case dmcFill => exact State.onDmc_ignores_flags Dmc.fill_ignoresIrq s
  case dmcOutputClock => exact State.onDmc_ignores_flags Dmc.outputClock_ignoresIrq s
  case dmcStartOutputCycle => exact State.onDmc_ignores_flags Dmc.startOutputCycle_ignoresIrq s
  case dmcClockTimer => exact State.onDmc_ignores_flags Dmc.clockTimer_ignoresIrq s
  case dmcStepLevel b =>
    have hdmc : (s.dmc.stepLevel b).clearIrq = (s.dmc.clearIrq.stepLevel b).clearIrq := by
      rw [Dmc.stepLevel_clearIrq]
      rfl
    exact congrArg (fun d => ({ s with fs := s.fs.clearIrq, dmc := d } : State)) hdmc
  case wDmcR0 b =>
    have hdmc : (s.dmc.writeR0 b).clearIrq = (s.dmc.clearIrq.writeR0 b).clearIrq := by
      rw [Dmc.writeR0_eq, Dmc.writeR0_eq]
      rfl
    exact congrArg (fun d => ({ s with reg.dmc.r0 := b, fs := s.fs.clearIrq, dmc := d } : State)) hdmc
  case dividerSetPeriod d _ | dividerResetCounter d | dividerClock d =>
    obtain t | e | x | _ := d
    · cases t <;> rfl
    · cases e <;> rfl
    · cases x <;> rfl
    · rfl
  case timerSetPeriodLow8 t _ | timerSetPeriodHigh3 t _ => cases t <;> rfl
  case timerSetPeriod t _ | timerGetPeriod t | timerClock t => cases t <;> rfl
  case lengthSetEnabled l _ | lengthSetHalt l _ | lengthLoad l _ | lengthClock l | lengthSilenceChannel l |
      lengthGetValue l => cases l <;> rfl
  case envelopeSetConstantVolume e _ | envelopeRestart e | envelopeClock e | envelopeGetVolume e | envelopeSetLoop e _ |
      envelopeSetConstantVolumeMode e _ => cases e <;> rfl
  case sweepTarget x | sweepRetune x | sweepSilence x | sweepClock x | sweepSetEnabled x _ | sweepSetNegate x _ |
      sweepSetPeriod x _ | sweepSetShiftCount x _ | sweepRestart x | pulseWaveAdvance x | pulseWaveRestart x |
      pulseWaveOutput x | pulseClockTimer x | pulseGetValue x | pulseClockQuarterFrame x | pulseClockHalfFrame x =>
    cases x <;> rfl
  all_goals rfl

/-- Settles O48: by cases of the operation, of which none looks at the flags. -/
theorem interruptFlagsAreLevels : Obligations.InterruptFlagsAreLevels :=
  ⟨fun _ => rfl, fun _ _ _ _ => exec_ignores_flags⟩

/-! ## The producer does not look at the consumer's side (R396) -/

/-- The state with the producer's part `v` and everything else as at construction. -/
def ProducerView.toState (v : ProducerView) : State :=
  { State.reset with
    reg := v.reg, p1 := v.p1, p2 := v.p2, tri := v.tri, noi := v.noi, dmc := v.dmc, fs := v.fs, mix := v.mix,
    phase2 := v.phase2, mem := v.mem, obs.reads := v.reads, obs.emitted := v.emitted }

/-- The producer's part of a state alone. -/
def State.producerPart (s : State) : State := s.producerView.toState

theorem State.producerPart_producerView (s : State) : s.producerPart.producerView = s.producerView := rfl

theorem State.producerPart_eq_iff {s t : State} :
    s.producerPart = t.producerPart ↔ s.producerView = t.producerView where
  mp h := by rw [← s.producerPart_producerView, h, t.producerPart_producerView]
  mpr h := congrArg ProducerView.toState h

/-- An emission is of the same sample whatever the FIFO does with it (R330). -/
theorem producerPart_ignoredByParts : IgnoredByParts State.producerPart where
  keep _ := rfl
  quarter _ := rfl
  half _ := rfl
  raise _ := rfl
  prescale _ := rfl
  advance _ := rfl
  restart _ _ _ := rfl
  triangle _ := rfl
  halfRate _ := rfl
  toggle _ := rfl
  accumulate _ := rfl
  addRate _ := rfl
  emit s := by rw [State.emit_eq, State.emit_eq]; rfl
  irqInhibit _ := rfl
  mode _ := rfl
  step _ := rfl
  div _ := rfl
  phase2 _ := rfl
  mix _ := rfl

/-- The alternatives of `decodeWord` are in the order of the ids, from `h_1` for id 0x00. -/
theorem exec_write_ignores_consumer {w : WriteWord} {s t u : State} (ht : exec (decodeWord w) s = .next t)
    (hu : exec (decodeWord w) s.producerPart = .next u) : t.producerPart = u.producerPart := by
  generalize hi : decodeWord w = i at ht hu
  unfold decodeWord at hi
  split at hi <;> subst hi <;> cases ht <;> cases hu
  case h_24 => exact producerPart_ignoredByParts.writeMode _ _ s
  all_goals rfl

theorem exec_producer_ignores_consumer {e : Event} {s t u : State} (he : e.isProducer = true)
    (ht : exec (decodeEvent e) s = .next t) (hu : exec (decodeEvent e) s.producerPart = .next u) :
    t.producerPart = u.producerPart := by
  cases e with
  | write w => exact exec_write_ignores_consumer ht hu
  | step =>
    obtain rfl := Host.Outcome.next.inj ((exec_step s).symm.trans ht)
    obtain rfl := Host.Outcome.next.inj ((exec_step s.producerPart).symm.trans hu)
    exact producerPart_ignoredByParts.cycle.comp producerPart_ignoredByParts.resample s
  | reset =>
    cases ht
    cases hu
    rfl
  | pull | seek => cases he

/-- A producer's event makes the same of two states with the same producer's part. -/
theorem exec_producer_congr {e : Event} {s s' t t' : State} (he : e.isProducer = true)
    (ht : exec (decodeEvent e) s = .next t) (ht' : exec (decodeEvent e) s' = .next t')
    (h : s.producerView = s'.producerView) : t.producerView = t'.producerView := by
  obtain ⟨u, hu⟩ := exec_total (decodeEvent e) s.producerPart
  have hu' : exec (decodeEvent e) s'.producerPart = .next u := State.producerPart_eq_iff.mpr h ▸ hu
  rw [← State.producerPart_eq_iff, exec_producer_ignores_consumer he ht hu, exec_producer_ignores_consumer he ht' hu']

theorem exec_consumer_view {e : Event} {s t : State} (he : e.isProducer = false)
    (ht : exec (decodeEvent e) s = .next t) : t.producerView = s.producerView := by
  cases e with
  | write | step | reset => cases he
  | pull | seek =>
    cases ht
    rfl

/-- A run is its first event and then a run of the others. -/
theorem RunsTo.cons {e : Event} {es : List Event} {s t u : State}
    (ht : exec (decodeEvent e) (s.withEvents es) = .next t) (hu : RunsTo t es u) : RunsTo s (e :: es) u := by
  have hstep : step (s.withEvents (e :: es)) = .next t := (step_of_pending_cons rfl).trans ht
  have hevents : t.withEvents es = t := State.withEvents_self (exec_extends ht).pending
  unfold RunsTo at hu ⊢
  rw [hevents] at hu
  rw [List.length_cons, run_next hstep, hu]

/-- A run does to the producer's part what the producer's events of it do alone. -/
theorem exists_runsTo_producer_events (es : List Event) {s s' : State} (h : s.producerView = s'.producerView) :
    ∃ t t', RunsTo s es t ∧ RunsTo s' (es.filter Event.isProducer) t' ∧ t.producerView = t'.producerView := by
  induction es generalizing s s' with
  | nil => exact ⟨_, _, rfl, rfl, h⟩
  | cons e es ih =>
    obtain ⟨t, ht⟩ := exec_total (decodeEvent e) (s.withEvents es)
    cases he : e.isProducer with
    | false =>
      obtain ⟨u, u', hu, hu', hview⟩ := ih ((exec_consumer_view he ht).trans h)
      rw [List.filter_cons_of_neg (by simp [he])]
      exact ⟨u, u', hu.cons ht, hu', hview⟩
    | true =>
      obtain ⟨t', ht'⟩ := exec_total (decodeEvent e) (s'.withEvents (es.filter Event.isProducer))
      obtain ⟨u, u', hu, hu', hview⟩ := ih (exec_producer_congr he ht ht' h)
      rw [List.filter_cons_of_pos he]
      exact ⟨u, u', hu.cons ht, hu'.cons ht', hview⟩

/-- Settles O56: both runs do to the producer's part what one run of the common producer's events does. -/
theorem producerIsIndependentOfConsumer : Obligations.ProducerIsIndependentOfConsumer := by
  intro s s' es es' h hevents
  obtain ⟨t, u, ht, hu, hview⟩ := exists_runsTo_producer_events es (rfl : s.producerView = s.producerView)
  obtain ⟨t', u', ht', hu', hview'⟩ := exists_runsTo_producer_events es' h.symm
  obtain rfl := Host.Outcome.next.inj ((hevents ▸ hu).symm.trans hu')
  exact ⟨t, t', ht, ht', hview.trans hview'.symm⟩

end Sys2Proof.Machine
